-- ==== Sys2Proof/Word.lean ====
section
/-! DEFINITION. The word types of the machine (spec 00_scope R7, R8): bytes, 16-, 32- and 64-bit words, register
numbers. Bit 0 is the least significant bit of every one. -/

namespace Sys2Proof

/-- One byte of memory or of an instruction (00_scope R7). -/
abbrev Byte := BitVec 8

/-- A 16-bit word: a selector, a 16-bit general register, an FPU control, status or tag word. -/
abbrev Word16 := BitVec 16

/-- A 32-bit doubleword: a general register, a linear address, a control register. -/
abbrev Dword := BitVec 32

/-- A 64-bit quadword: the value of an MMX register, the time-stamp counter, an MSR. -/
abbrev Qword := BitVec 64

/-- An 80-bit FPU data register: sign 79, exponent 78:64, significand 63:0 (10_state R26). -/
abbrev FpuReg := BitVec 80

/-- A 3-bit register field of an encoding (30_encoding R142, R143): a general, MMX or FPU stack register number. -/
abbrev RegNum := BitVec 3

end Sys2Proof
end

