-- ==== Sys2Proof/Config.lean ====
section
/-! DEFINITION. What an implementation fixes: the parameters of spec 00_scope R6, as plain data that `State.cfg`
holds and no step writes (the reset state among them, hence the segment, table and debug register types here), and the
free values, opaque constants whose value nothing in Lean can learn. -/

namespace Sys2Proof

namespace Machine

/-- A segment register: the visible selector and the hidden part (10_state R41, log 23). -/
structure Seg where
  sel : Word16
  base : Dword
  limit : Dword
  /-- A store through it is allowed in protected mode (20_memory R88). -/
  writable : Bool
  /-- The default operand and address size of code in it is 32 bits (30_encoding R147). -/
  big : Bool
deriving DecidableEq, Repr, Inhabited

/-- The six segment registers (10_state R41). -/
structure SegFile where
  es : Seg
  cs : Seg
  ss : Seg
  ds : Seg
  fs : Seg
  gs : Seg
deriving DecidableEq, Repr, Inhabited

/-- TR and LDTR (10_state R41). -/
structure SysSeg where
  sel : Word16
  base : Dword
  limit : Dword
deriving DecidableEq, Repr, Inhabited

/-- GDTR and IDTR (10_state R41). -/
structure TableReg where
  base : Dword
  limit : Word16
deriving DecidableEq, Repr, Inhabited

/-- The debug registers; DR4 and DR5 are no storage of their own (10_state R38, R42). -/
structure DebugRegs where
  dr0 : Dword
  dr1 : Dword
  dr2 : Dword
  dr3 : Dword
  dr6 : Dword
  dr7 : Dword
deriving DecidableEq, Repr, Inhabited

end Machine

/-- `Family` of 00_scope R6. -/
inductive Family where
  | p5
  | p6
deriving DecidableEq, Repr

/-- What a range of physical addresses holds (70_reset R604, 92_eei D8). -/
inductive RegionKind where
  /-- Plain memory: a read answers the last byte written. -/
  | ram
  /-- Memory that a store leaves as it is. -/
  | rom
  /-- A device: the spec says nothing of what a read or a write does there. -/
  | device
  /-- The host has nothing there. -/
  | absent
deriving DecidableEq, Repr

/-- One range of the host's address map: `size` bytes from `base`. -/
structure Region where
  base : Nat
  size : Nat
  kind : RegionKind
deriving DecidableEq, Repr

/-- `ResetState` of 00_scope R6 (70_reset R601, 92_eei D2): what RESET# gives every register but SMBASE, which the source
fixes, the FPU data registers, which are drawn, and the hidden state of 70_reset R606. -/
structure ResetState where
  gpr : Vector Dword 8
  eip : Dword
  eflags : Dword
  segs : Machine.SegFile
  ldtr : Machine.SysSeg
  tr : Machine.SysSeg
  gdtr : Machine.TableReg
  idtr : Machine.TableReg
  cr0 : Dword
  cr2 : Dword
  cr3 : Dword
  cr4 : Dword
  dr : Machine.DebugRegs
  fcw : Word16
  fsw : Word16
  ftw : Word16
  tsc : Qword
  cesr : Dword
  ctr0 : BitVec 40
  ctr1 : BitVec 40
deriving DecidableEq, Repr

/-- The parameters of 00_scope R6 (log 1). `Has*` parameters that follow from `family` are derived in
Machine/Features.lean. -/
structure Config where
  /-- `Family`. -/
  family : Family
  /-- `HasMMX`. -/
  mmx : Bool
  /-- `HasCMOV`, meaningful on P6 (R6: "P6 only"). -/
  cmov : Bool
  /-- `HasRDPMC` (30_encoding R176). -/
  rdpmc : Bool
  /-- `CPUID_Signature`: leaf 1 EAX; its bits 31:14 are reserved (46 R353) and never read. -/
  signature : Dword
  /-- `CPUID_Features`: leaf 1 EDX. -/
  features : Dword
  /-- `CPUID_Leaf2`: EAX, EBX, ECX, EDX of leaf 2 (P6). -/
  leaf2a : Dword
  leaf2b : Dword
  leaf2c : Dword
  leaf2d : Dword
  /-- `SMM_RevisionId`. -/
  smmRevision : Dword
  /-- `MSR_Valid`: the MSR numbers RDMSR and WRMSR accept. -/
  msrValid : List Nat
  /-- `PerfEvents`: the Pentium MMX events 43 to 59 exist (60 R590; on P6 DESIGN CHOICE, log 53). -/
  perfMmxEvents : Bool
  /-- `ResetState` (70_reset R601; the table of R602 is its default, log 2). -/
  resetState : ResetState
  /-- `VIF_SetMeansMasked`: the polarity of EFLAGS.VIF, true as chapter 9 prints it (log 10). -/
  vifSetMeansMasked : Bool
  /-- SMRAM is a physical space of its own (10_state R50 (c), log 18). -/
  smramSeparate : Bool
  /-- `AddressMap`: the first region that holds an address decides; an address in no region is RAM (92_eei D8). -/
  addressMap : List Region
deriving DecidableEq, Repr

namespace Machine

/-- A data segment after reset (70_reset R602; attributes DESIGN CHOICE, log 23). -/
def Seg.resetData : Seg where
  sel := 0
  base := 0
  limit := 0xFFFF
  writable := true
  big := false

/-- CS after reset (70_reset R602; attributes DESIGN CHOICE, log 23). -/
def Seg.resetCode : Seg where
  sel := 0xF000
  base := 0xFFFF0000
  limit := 0xFFFF
  writable := true
  big := false

/-- The segment registers after reset. -/
def SegFile.reset : SegFile where
  es := Seg.resetData
  cs := Seg.resetCode
  ss := Seg.resetData
  ds := Seg.resetData
  fs := Seg.resetData
  gs := Seg.resetData

/-- TR and LDTR after reset (70_reset R602). -/
def SysSeg.reset : SysSeg where
  sel := 0
  base := 0
  limit := 0xFFFF

/-- GDTR and IDTR after reset (70_reset R602). -/
def TableReg.reset : TableReg where
  base := 0
  limit := 0xFFFF

/-- Debug registers after reset (70_reset R602). -/
def DebugRegs.reset : DebugRegs where
  dr0 := 0
  dr1 := 0
  dr2 := 0
  dr3 := 0
  dr6 := 0xFFFF0FF0
  dr7 := 0x00000400

end Machine

/-- The default table of 70_reset R602 (PRESUMED, log 2), for a processor of this signature, which EDX holds. -/
def ResetState.default (signature : Dword) : ResetState where
  gpr := #v[0, 0, signature, 0, 0, 0, 0, 0]
  eip := 0x0000FFF0
  eflags := 0x00000002
  segs := Machine.SegFile.reset
  ldtr := Machine.SysSeg.reset
  tr := Machine.SysSeg.reset
  gdtr := Machine.TableReg.reset
  idtr := Machine.TableReg.reset
  cr0 := 0x60000010
  cr2 := 0
  cr3 := 0
  cr4 := 0
  dr := Machine.DebugRegs.reset
  fcw := 0x0040
  fsw := 0
  ftw := 0x5555
  tsc := 0
  cesr := 0
  ctr0 := 0
  ctr1 := 0

/-- DESIGN CHOICE (log 1): a P6 model with every feature of this spec, the Pentium Pro leaf 2 of 46 R355, both SMM
extensions, the four MSRs of 10_state R43, the Pentium MMX events (log 53), the reset table of 70_reset R602, and plain
memory everywhere. -/
def Config.default : Config where
  family := .p6
  mmx := true
  cmov := true
  rdpmc := true
  signature := 0x00000633
  features := 0x0080A1FF
  leaf2a := 0x03020101
  leaf2b := 0
  leaf2c := 0
  leaf2d := 0x06040A42
  smmRevision := 0x00030000
  msrValid := [0x10, 0x11, 0x12, 0x13]
  perfMmxEvents := true
  resetState := ResetState.default 0x00000633
  vifSetMeansMasked := true
  smramSeparate := false
  addressMap := []

/-- FREE VALUE (log 5): the `n`-th value the spec leaves open, `w` bits wide. No body: nothing can evaluate it. -/
opaque Config.freeBits (w n : Nat) : BitVec w

/-- FREE VALUE (log 20): which remembered walk the `n`-th translation uses; an index past the matching ones means a
fresh walk (92_eei D10). -/
opaque Config.tlbPick (n : Nat) : Nat

end Sys2Proof
end

