-- ==== Sys2Proof/Syntax.lean ====
section
/-! DEFINITION. The instructions of spec/opcode_table.json, one constructor a row (30_encoding R164), with the operand
forms of 30_encoding R145, R150 to R153. Every instruction carries the exact bytes that precede its opcode
(30_encoding R157), so its length and its encoding are functions of it. -/

namespace Sys2Proof

/-- The six segment registers (10_state R41). -/
inductive SegName where
  | es
  | cs
  | ss
  | ds
  | fs
  | gs
deriving DecidableEq, Repr

/-- The bytes that may precede an opcode (30_encoding R157). -/
inductive Pfx where
  /-- 66h, operand size. -/
  | opSize
  /-- 67h, address size. -/
  | addrSize
  /-- 26h ES, 2Eh CS, 36h SS, 3Eh DS, 64h FS, 65h GS: segment override. -/
  | seg (s : SegName)
  /-- F2h, repeat while not equal. -/
  | repne
  /-- F3h, repeat. -/
  | rep
  /-- F0h, LOCK. -/
  | lock
deriving DecidableEq, Repr

/-- The displacement of a 16-bit address form (30_encoding R152, R153). -/
inductive Disp16 where
  | none
  | d8 (d : Byte)
  | d16 (d : Word16)
deriving DecidableEq, Repr

/-- The displacement of a 32-bit address form (30_encoding R150 to R152). -/
inductive Disp32 where
  | none
  | d8 (d : Byte)
  | d32 (d : Dword)
deriving DecidableEq, Repr

/-- A memory operand, by its form in ModR/M and SIB (30_encoding R150, R151, R153). -/
inductive Mem where
  /-- 16-bit: the `r/m` row of 30_encoding R153 plus a displacement. -/
  | based16 (rm : RegNum) (disp : Disp16)
  /-- 16-bit: `mod = 00, r/m = 110`, a displacement alone. -/
  | abs16 (d : Word16)
  /-- 32-bit: one base register and no SIB byte (30_encoding R150). -/
  | based32 (base : RegNum) (disp : Disp32)
  /-- 32-bit: `mod = 00, r/m = 101`, a displacement alone. -/
  | abs32 (d : Dword)
  /-- 32-bit with SIB (30_encoding R151); `index = 100` is no index. -/
  | sib (scale : BitVec 2) (index base : RegNum) (disp : Disp32)
  /-- 32-bit with SIB, `base = 101` and `mod = 00`: no base register, a 32-bit displacement. -/
  | sibNoBase (scale : BitVec 2) (index : RegNum) (d : Dword)
deriving DecidableEq, Repr

/-- The operand the `mod` and `r/m` fields name: a register (`mod = 11`) or memory (30_encoding R142). -/
inductive Rm where
  | reg (r : RegNum)
  | mem (m : Mem)
deriving DecidableEq, Repr

/-- The instructions, in the order of 30_encoding R164. `p` holds the bytes before the opcode; `d` is the `reg` field
of a form that has one; `x` is the `r/m` operand; `n` an immediate byte; `i` a stack register number. -/
inductive Instr where
  /-- UD2: `0F 0B`. -/
  | ud2 (p : List Pfx)
  /-- WRMSR: `0F 30`. -/
  | wrmsr (p : List Pfx)
  /-- RDTSC: `0F 31`. -/
  | rdtsc (p : List Pfx)
  /-- RDMSR: `0F 32`. -/
  | rdmsr (p : List Pfx)
  /-- RDPMC: `0F 33`. -/
  | rdpmc (p : List Pfx)
  /-- CMOVO: `0F 40 /r`. -/
  | cmovo (p : List Pfx) (d : RegNum) (x : Rm)
  /-- CMOVNO: `0F 41 /r`. -/
  | cmovno (p : List Pfx) (d : RegNum) (x : Rm)
  /-- CMOVB: `0F 42 /r`. -/
  | cmovb (p : List Pfx) (d : RegNum) (x : Rm)
  /-- CMOVAE: `0F 43 /r`. -/
  | cmovae (p : List Pfx) (d : RegNum) (x : Rm)
  /-- CMOVE: `0F 44 /r`. -/
  | cmove (p : List Pfx) (d : RegNum) (x : Rm)
  /-- CMOVNE: `0F 45 /r`. -/
  | cmovne (p : List Pfx) (d : RegNum) (x : Rm)
  /-- CMOVBE: `0F 46 /r`. -/
  | cmovbe (p : List Pfx) (d : RegNum) (x : Rm)
  /-- CMOVA: `0F 47 /r`. -/
  | cmova (p : List Pfx) (d : RegNum) (x : Rm)
  /-- CMOVS: `0F 48 /r`. -/
  | cmovs (p : List Pfx) (d : RegNum) (x : Rm)
  /-- CMOVNS: `0F 49 /r`. -/
  | cmovns (p : List Pfx) (d : RegNum) (x : Rm)
  /-- CMOVP: `0F 4A /r`. -/
  | cmovp (p : List Pfx) (d : RegNum) (x : Rm)
  /-- CMOVNP: `0F 4B /r`. -/
  | cmovnp (p : List Pfx) (d : RegNum) (x : Rm)
  /-- CMOVL: `0F 4C /r`. -/
  | cmovl (p : List Pfx) (d : RegNum) (x : Rm)
  /-- CMOVGE: `0F 4D /r`. -/
  | cmovge (p : List Pfx) (d : RegNum) (x : Rm)
  /-- CMOVLE: `0F 4E /r`. -/
  | cmovle (p : List Pfx) (d : RegNum) (x : Rm)
  /-- CMOVG: `0F 4F /r`. -/
  | cmovg (p : List Pfx) (d : RegNum) (x : Rm)
  /-- PUNPCKLBW: `0F 60 /r`. -/
  | punpcklbw (p : List Pfx) (d : RegNum) (x : Rm)
  /-- PUNPCKLWD: `0F 61 /r`. -/
  | punpcklwd (p : List Pfx) (d : RegNum) (x : Rm)
  /-- PUNPCKLDQ: `0F 62 /r`. -/
  | punpckldq (p : List Pfx) (d : RegNum) (x : Rm)
  /-- PACKSSWB: `0F 63 /r`. -/
  | packsswb (p : List Pfx) (d : RegNum) (x : Rm)
  /-- PCMPGTB: `0F 64 /r`. -/
  | pcmpgtb (p : List Pfx) (d : RegNum) (x : Rm)
  /-- PCMPGTW: `0F 65 /r`. -/
  | pcmpgtw (p : List Pfx) (d : RegNum) (x : Rm)
  /-- PCMPGTD: `0F 66 /r`. -/
  | pcmpgtd (p : List Pfx) (d : RegNum) (x : Rm)
  /-- PACKUSWB: `0F 67 /r`. -/
  | packuswb (p : List Pfx) (d : RegNum) (x : Rm)
  /-- PUNPCKHBW: `0F 68 /r`. -/
  | punpckhbw (p : List Pfx) (d : RegNum) (x : Rm)
  /-- PUNPCKHWD: `0F 69 /r`. -/
  | punpckhwd (p : List Pfx) (d : RegNum) (x : Rm)
  /-- PUNPCKHDQ: `0F 6A /r`. -/
  | punpckhdq (p : List Pfx) (d : RegNum) (x : Rm)
  /-- PACKSSDW: `0F 6B /r`. -/
  | packssdw (p : List Pfx) (d : RegNum) (x : Rm)
  /-- MOVD: `0F 6E /r`. -/
  | movdLoad (p : List Pfx) (d : RegNum) (x : Rm)
  /-- MOVQ: `0F 6F /r`. -/
  | movqLoad (p : List Pfx) (d : RegNum) (x : Rm)
  /-- PSRLW: `0F 71 /2 ib`; `d` is the `r/m` field. -/
  | psrlwImm (p : List Pfx) (d : RegNum) (n : Byte)
  /-- PSRAW: `0F 71 /4 ib`; `d` is the `r/m` field. -/
  | psrawImm (p : List Pfx) (d : RegNum) (n : Byte)
  /-- PSLLW: `0F 71 /6 ib`; `d` is the `r/m` field. -/
  | psllwImm (p : List Pfx) (d : RegNum) (n : Byte)
  /-- PSRLD: `0F 72 /2 ib`; `d` is the `r/m` field. -/
  | psrldImm (p : List Pfx) (d : RegNum) (n : Byte)
  /-- PSRAD: `0F 72 /4 ib`; `d` is the `r/m` field. -/
  | psradImm (p : List Pfx) (d : RegNum) (n : Byte)
  /-- PSLLD: `0F 72 /6 ib`; `d` is the `r/m` field. -/
  | pslldImm (p : List Pfx) (d : RegNum) (n : Byte)
  /-- PSRLQ: `0F 73 /2 ib`; `d` is the `r/m` field. -/
  | psrlqImm (p : List Pfx) (d : RegNum) (n : Byte)
  /-- PSLLQ: `0F 73 /6 ib`; `d` is the `r/m` field. -/
  | psllqImm (p : List Pfx) (d : RegNum) (n : Byte)
  /-- PCMPEQB: `0F 74 /r`. -/
  | pcmpeqb (p : List Pfx) (d : RegNum) (x : Rm)
  /-- PCMPEQW: `0F 75 /r`. -/
  | pcmpeqw (p : List Pfx) (d : RegNum) (x : Rm)
  /-- PCMPEQD: `0F 76 /r`. -/
  | pcmpeqd (p : List Pfx) (d : RegNum) (x : Rm)
  /-- EMMS: `0F 77`. -/
  | emms (p : List Pfx)
  /-- MOVD: `0F 7E /r`; the `reg` field is the source and the `r/m` operand the destination. -/
  | movdStore (p : List Pfx) (d : RegNum) (x : Rm)
  /-- MOVQ: `0F 7F /r`; the `reg` field is the source and the `r/m` operand the destination. -/
  | movqStore (p : List Pfx) (d : RegNum) (x : Rm)
  /-- CPUID: `0F A2`. -/
  | cpuid (p : List Pfx)
  /-- RSM: `0F AA`. -/
  | rsm (p : List Pfx)
  /-- CMPXCHG8B: `0F C7 /1`. -/
  | cmpxchg8b (p : List Pfx) (x : Rm)
  /-- PSRLW: `0F D1 /r`. -/
  | psrlw (p : List Pfx) (d : RegNum) (x : Rm)
  /-- PSRLD: `0F D2 /r`. -/
  | psrld (p : List Pfx) (d : RegNum) (x : Rm)
  /-- PSRLQ: `0F D3 /r`. -/
  | psrlq (p : List Pfx) (d : RegNum) (x : Rm)
  /-- PMULLW: `0F D5 /r`. -/
  | pmullw (p : List Pfx) (d : RegNum) (x : Rm)
  /-- PSUBUSB: `0F D8 /r`. -/
  | psubusb (p : List Pfx) (d : RegNum) (x : Rm)
  /-- PSUBUSW: `0F D9 /r`. -/
  | psubusw (p : List Pfx) (d : RegNum) (x : Rm)
  /-- PAND: `0F DB /r`. -/
  | pand (p : List Pfx) (d : RegNum) (x : Rm)
  /-- PADDUSB: `0F DC /r`. -/
  | paddusb (p : List Pfx) (d : RegNum) (x : Rm)
  /-- PADDUSW: `0F DD /r`. -/
  | paddusw (p : List Pfx) (d : RegNum) (x : Rm)
  /-- PANDN: `0F DF /r`. -/
  | pandn (p : List Pfx) (d : RegNum) (x : Rm)
  /-- PSRAW: `0F E1 /r`. -/
  | psraw (p : List Pfx) (d : RegNum) (x : Rm)
  /-- PSRAD: `0F E2 /r`. -/
  | psrad (p : List Pfx) (d : RegNum) (x : Rm)
  /-- PMULHW: `0F E5 /r`. -/
  | pmulhw (p : List Pfx) (d : RegNum) (x : Rm)
  /-- PSUBSB: `0F E8 /r`. -/
  | psubsb (p : List Pfx) (d : RegNum) (x : Rm)
  /-- PSUBSW: `0F E9 /r`. -/
  | psubsw (p : List Pfx) (d : RegNum) (x : Rm)
  /-- POR: `0F EB /r`. -/
  | por (p : List Pfx) (d : RegNum) (x : Rm)
  /-- PADDSB: `0F EC /r`. -/
  | paddsb (p : List Pfx) (d : RegNum) (x : Rm)
  /-- PADDSW: `0F ED /r`. -/
  | paddsw (p : List Pfx) (d : RegNum) (x : Rm)
  /-- PXOR: `0F EF /r`. -/
  | pxor (p : List Pfx) (d : RegNum) (x : Rm)
  /-- PSLLW: `0F F1 /r`. -/
  | psllw (p : List Pfx) (d : RegNum) (x : Rm)
  /-- PSLLD: `0F F2 /r`. -/
  | pslld (p : List Pfx) (d : RegNum) (x : Rm)
  /-- PSLLQ: `0F F3 /r`. -/
  | psllq (p : List Pfx) (d : RegNum) (x : Rm)
  /-- PMADDWD: `0F F5 /r`. -/
  | pmaddwd (p : List Pfx) (d : RegNum) (x : Rm)
  /-- PSUBB: `0F F8 /r`. -/
  | psubb (p : List Pfx) (d : RegNum) (x : Rm)
  /-- PSUBW: `0F F9 /r`. -/
  | psubw (p : List Pfx) (d : RegNum) (x : Rm)
  /-- PSUBD: `0F FA /r`. -/
  | psubd (p : List Pfx) (d : RegNum) (x : Rm)
  /-- PADDB: `0F FC /r`. -/
  | paddb (p : List Pfx) (d : RegNum) (x : Rm)
  /-- PADDW: `0F FD /r`. -/
  | paddw (p : List Pfx) (d : RegNum) (x : Rm)
  /-- PADDD: `0F FE /r`. -/
  | paddd (p : List Pfx) (d : RegNum) (x : Rm)
  /-- FCMOVB: `DA C0+i`. -/
  | fcmovb (p : List Pfx) (i : RegNum)
  /-- FCMOVE: `DA C8+i`. -/
  | fcmove (p : List Pfx) (i : RegNum)
  /-- FCMOVBE: `DA D0+i`. -/
  | fcmovbe (p : List Pfx) (i : RegNum)
  /-- FCMOVU: `DA D8+i`. -/
  | fcmovu (p : List Pfx) (i : RegNum)
  /-- FCMOVNB: `DB C0+i`. -/
  | fcmovnb (p : List Pfx) (i : RegNum)
  /-- FCMOVNE: `DB C8+i`. -/
  | fcmovne (p : List Pfx) (i : RegNum)
  /-- FCMOVNBE: `DB D0+i`. -/
  | fcmovnbe (p : List Pfx) (i : RegNum)
  /-- FCMOVNU: `DB D8+i`. -/
  | fcmovnu (p : List Pfx) (i : RegNum)
  /-- FUCOMI: `DB E8+i`. -/
  | fucomi (p : List Pfx) (i : RegNum)
  /-- FCOMI: `DB F0+i`. -/
  | fcomi (p : List Pfx) (i : RegNum)
  /-- FUCOMIP: `DF E8+i`. -/
  | fucomip (p : List Pfx) (i : RegNum)
  /-- FCOMIP: `DF F0+i`. -/
  | fcomip (p : List Pfx) (i : RegNum)
deriving DecidableEq, Repr

/-- Instructions of the base machine whose effect some rule of this spec states; they are no rows of the opcode table
(log 28). -/
inductive BaseOp where
  /-- CLI (60_exceptions R531, R536, R537). -/
  | cli
  /-- STI (60_exceptions R531, R533, R536, R537). -/
  | sti
  /-- HLT (60_exceptions R516, R568). -/
  | hlt
  /-- INT n (60_exceptions R526, R528). -/
  | int (n : Byte)
  /-- MOV CR0, r32 (10_state R35, 60_exceptions R515). -/
  | movToCr0 (r : RegNum)
  /-- MOV r32, CR0 (10_state R35). -/
  | movFromCr0 (r : RegNum)
  /-- MOV CR2, r32 (10_state R36). -/
  | movToCr2 (r : RegNum)
  /-- MOV r32, CR2 (10_state R36). -/
  | movFromCr2 (r : RegNum)
  /-- MOV r32, CR3 (10_state R37). -/
  | movFromCr3 (r : RegNum)
  /-- MOV CR3, r32 (10_state R37, 20_memory R119). -/
  | movToCr3 (r : RegNum)
  /-- MOV CR4, r32 (10_state R39). -/
  | movToCr4 (r : RegNum)
  /-- MOV r32, CR4 (10_state R39). -/
  | movFromCr4 (r : RegNum)
  /-- MOV DRn, r32 (10_state R38, R42). -/
  | movToDr (n r : RegNum)
  /-- MOV r32, DRn (10_state R38, R42). -/
  | movFromDr (n r : RegNum)
  /-- PUSHF, POPF or IRET by opcode: described in virtual-8086 mode with IOPL below 3 only (60_exceptions R534). -/
  | flagsOp (op : Byte)
deriving DecidableEq, Repr

end Sys2Proof
end

