-- ==== Sys2Proof/Machine/State.lean ====
section
/-! DEFINITION. The state of the machine, as plain data: every piece of state spec 10_state names, the model's own
fields (INVENTORY.md, State), why a step can stop, and the state after reset (70_reset R602, R606). -/

namespace Sys2Proof.Machine

/-- Sparse memory: rising addresses, no entry equal to the byte an unlisted address reads as (log 4). -/
abbrev Memory := List Host.Cell

/-- A remembered successful page walk (20_memory R118, 92_eei D10). -/
structure TlbEntry where
  /-- `la[31:shift]` of the page. -/
  page : Nat
  /-- 12, 21 or 22: the page is `2 ^ shift` bytes. -/
  shift : Nat
  /-- Physical address of the page's first byte. -/
  frame : Nat
  /-- Effective U/S and R/W: the AND over the levels (20_memory R116). -/
  user : Bool
  writable : Bool
  /-- The G bit of the leaf entry (20_memory R119). -/
  global : Bool
  /-- The D bit of the leaf entry as this walk knows it. -/
  dirty : Bool
  /-- Physical address of the leaf entry, whose D bit the first write sets. -/
  leaf : Nat
deriving DecidableEq, Repr, Inhabited

/-- What SMM entry saves where software cannot read it, and the save area's bytes as stored (60 R560, log 15). -/
structure SmmImage where
  cr4 : Dword
  segs : SegFile
  cpl : BitVec 2
  ldtr : SysSeg
  tr : SysSeg
  gdtr : TableReg
  idtr : TableReg
  /-- The 512 bytes stored at SMBASE+FE00h, to tell whether the handler changed one it must not (log 15). -/
  area : List Byte
deriving DecidableEq, Repr, Inhabited

/-- What the host drives between two instructions (60 R513, log 12). -/
inductive Input where
  | reset
  | init
  | nmi
  /-- SMI, with the address of the I/O instruction it interrupts, if any (60 R569, log 50). -/
  | smi (io : Option Dword)
  /-- INTR# asserted with the vector of the request. -/
  | intr (v : Byte)
  /-- INTR# withdrawn. -/
  | intrOff
  | flush
  | a20m
deriving DecidableEq, Repr

/-- The exceptions the instructions of this spec raise (60 R500). Each is TAKEN: a next state. -/
inductive Exn where
  /-- 6, invalid opcode (60 R505). -/
  | ud
  /-- 7, device not available (60 R503). -/
  | nm
  /-- 12, stack fault, code 0 (60 R508). -/
  | ss
  /-- 13, general protection, code 0 (60 R507). -/
  | gp
  /-- 14, page fault with its error code and the linear address (60 R510). -/
  | pf (code linear : Dword)
  /-- 16, pending FPU exception (60 R504). -/
  | mf
  /-- 17, alignment check, code 0 (60 R509). -/
  | ac
deriving DecidableEq, Repr, Inhabited

/-- The raise side of the last exception or interrupt (60 R501, log 49). -/
structure Raised where
  vector : Byte
  code : Option Dword
  savedEip : Dword
deriving DecidableEq, Repr, Inhabited

/-- The machine's state. Every field's rule, width and reset value stand in INVENTORY.md under State. -/
structure State where
  /-- The parameters of 00_scope R6; no step writes it (log 1). -/
  cfg : Config
  /-- EAX ECX EDX EBX ESP EBP ESI EDI by number (10_state R20). -/
  gpr : Vector Dword 8
  /-- EIP (10_state R21, R22). -/
  eip : Dword
  /-- EFLAGS (10_state R23, R24). -/
  eflags : Dword
  /-- CS DS ES FS GS SS (10_state R41). -/
  segs : SegFile
  /-- The current privilege level of protected mode (00_scope R12). -/
  cpl : BitVec 2
  ldtr : SysSeg
  tr : SysSeg
  gdtr : TableReg
  idtr : TableReg
  /-- Control registers (10_state R35 to R38). -/
  cr0 : Dword
  cr2 : Dword
  cr3 : Dword
  cr4 : Dword
  /-- Debug registers (10_state R42). -/
  dr : DebugRegs
  /-- FPR[0..7]; MM[n] is FPR[n][63:0] (10_state R26). -/
  fpr : Vector FpuReg 8
  /-- FPU control, status and tag words (10_state R29, R30, R33). -/
  fcw : Word16
  fsw : Word16
  ftw : Word16
  /-- MSR 10h (10_state R44). -/
  tsc : Qword
  /-- MSR 11h (10_state R46). -/
  cesr : Dword
  /-- MSR 12h and 13h, the two counters (10_state R45). -/
  ctr0 : BitVec 40
  ctr1 : BitVec 40
  /-- SMBASE (10_state R47). -/
  smbase : Dword
  /-- The hidden SMM and interrupt state (10_state R48). -/
  inSmm : Bool
  smiLatched : Bool
  nmiLatched : Bool
  nmiBlocked : Bool
  a20mBlocked : Bool
  halted : Bool
  shutdown : Bool
  haltedAtSmi : Bool
  ioRestartEip : Option Dword
  /-- The unreadable part of the SMM save area (60 R560). -/
  smmImage : SmmImage
  /-- The INTR# request and its vector (60 R513, R532). -/
  intrLine : Option Byte
  /-- Physical memory (10_state R50 (b)). -/
  mem : Memory
  /-- SMRAM as a space of its own (10_state R50 (c), log 18). -/
  smram : Memory
  /-- Remembered page walks (10_state R49). -/
  tlb : List TlbEntry
  /-- What the host drives, one entry a step (60 R513, log 12). -/
  inputs : List (Option Input)
  /-- The model's own: the index of the next free value (log 5). -/
  draws : Nat
  /-- A single-step trap is pending: the last instruction began with EFLAGS.TF set and completed (60 R592, log 62). -/
  stepTrap : Bool
  /-- The raise side of the last exception or interrupt taken (log 49). -/
  lastExn : Option Raised
  /-- The exception its delivery raised in turn, none where it was delivered (60 R514, 20_memory R117, log 11). -/
  deliveryExn : Option Exn
deriving DecidableEq, Repr

/-- Why the machine stops. -/
inductive Fault where
  /-- An access to a physical address at which the host's address map has nothing (70_reset R604). Raised by the memory
  operations of Machine/Memory.lean. Safe: the hardware goes on in a way the host defines. -/
  | nothingMapped (address : Nat)
deriving DecidableEq, Repr

/-- Why the model answers no meaning. -/
inductive Refusal where
  /-- An instruction of the opcode table that has no meaning yet. Raised by Machine/Dispatch.lean. Safe. -/
  | notModelled (mnemonic : String)
  /-- An opcode of the base machine (93 U28); the high byte is 0Fh for a two-byte one. Raised by Machine/Step.lean.
  Safe. -/
  | baseInstruction (opcode : Word16)
  /-- An access to a region the host's map gives to a device (92_eei D8). Raised by Machine/Memory.lean. Safe. -/
  | deviceRegion (address : Nat)
  /-- RDMSR or WRMSR of a number `MSR_Valid` admits beyond 10h to 13h (93 U11). Safe. -/
  | msrNotDescribed (number : Dword)
  /-- RSM after the handler set the auto HALT restart flag of a processor that was not halted (60 R567: unpredictable, "the
  model refuses"; 93 U17). Safe. -/
  | haltRestart
  /-- RSM with an I/O restart field the spec gives no effect (60 R569, 93 U17, U22). Safe. -/
  | ioRestart
  /-- RSM after the handler changed a read-only or reserved slot, or SMBASE without relocation (93 U15, U22). Safe. -/
  | saveAreaModified
  /-- Physical address extension turned on inside SMM (93 U25): CR4.PAE from 0 to 1, or paging turned on with CR4.PAE
  set, where it takes effect (20_memory R120). Raised by MOV CR4 and MOV CR0 in Machine/Base.lean. Safe. -/
  | paeInSmm
deriving DecidableEq, Repr

/-- Nothing is saved before the first SMI (DESIGN CHOICE, log 15). -/
def SmmImage.reset : SmmImage where
  cr4 := 0
  segs := SegFile.reset
  cpl := 0
  ldtr := SysSeg.reset
  tr := SysSeg.reset
  gdtr := TableReg.reset
  idtr := TableReg.reset
  area := []

/-- The machine of a configuration right after RESET: `ResetState` (70_reset R601), SMBASE = 30000h (10_state R51), the
hidden state of 70_reset R606, the FPU data registers at the model's zeros (DESIGN CHOICE, log 3), nothing in memory. CPL
0 and no remembered walk are no part of the parameter: they are so whatever it holds (DESIGN CHOICE, log 2). -/
def State.resetOf (c : Config) : State where
  cfg := c
  gpr := c.resetState.gpr
  eip := c.resetState.eip
  eflags := c.resetState.eflags
  segs := c.resetState.segs
  cpl := 0
  ldtr := c.resetState.ldtr
  tr := c.resetState.tr
  gdtr := c.resetState.gdtr
  idtr := c.resetState.idtr
  cr0 := c.resetState.cr0
  cr2 := c.resetState.cr2
  cr3 := c.resetState.cr3
  cr4 := c.resetState.cr4
  dr := c.resetState.dr
  fpr := #v[0, 0, 0, 0, 0, 0, 0, 0]
  fcw := c.resetState.fcw
  fsw := c.resetState.fsw
  ftw := c.resetState.ftw
  tsc := c.resetState.tsc
  cesr := c.resetState.cesr
  ctr0 := c.resetState.ctr0
  ctr1 := c.resetState.ctr1
  smbase := 0x00030000
  inSmm := false
  smiLatched := false
  nmiLatched := false
  nmiBlocked := false
  a20mBlocked := false
  halted := false
  shutdown := false
  haltedAtSmi := false
  ioRestartEip := none
  smmImage := SmmImage.reset
  intrLine := none
  mem := []
  smram := []
  tlb := []
  inputs := []
  draws := 0
  stepTrap := false
  lastExn := none
  deliveryExn := none

/-- The machine right after RESET, with the default parameters (70_reset R602, R606; log 1, log 2, log 3). -/
def State.reset : State := State.resetOf Config.default

end Sys2Proof.Machine
end

