-- ==== Sys2Proof/Machine/Features.lean ====
section
/-! DEFINITION. What follows from the configuration (00_scope R6): the `Has*` rows, the reserved bits, the address map. -/

namespace Sys2Proof.Machine

/-- P6 of 00_scope R6. -/
def isP6 (c : Config) : Bool := c.family == .p6

/-- `HasCMOV`: P6 only, and not on every model of it (00_scope R6). -/
def hasCmov (c : Config) : Bool := isP6 c && c.cmov

/-- `CPUID_MaxLeaf`: 1 on P5, 2 on P6 (00_scope R6, 46 R352). -/
def maxLeaf (c : Config) : Nat := if isP6 c then 2 else 1

/-- `SMBASE_AlignCheck`: true on P5 (00_scope R6). -/
def smbaseAlignCheck (c : Config) : Bool := !isP6 c

/-- CR4 bits that must be 0: 31:9 on P6; 31:9, 8, 7 and 5 on P5 (10_state R38, R39). -/
def cr4Reserved (c : Config) : Dword := if isP6 c then 0xFFFFFE00 else 0xFFFFFFA0

/-- SMM revision bit 16: I/O instruction restart is supported (60 R571). -/
def hasIoRestart (c : Config) : Bool := c.smmRevision.getLsbD 16

/-- SMM revision bit 17: SMBASE relocation is supported (60 R571). -/
def hasRelocation (c : Config) : Bool := c.smmRevision.getLsbD 17

/-- What the host has at a physical address; an address in no region is plain memory (92_eei D8, log 19). -/
def kindAt (c : Config) (a : Nat) : RegionKind :=
  match c.addressMap.find? fun r => r.base ≤ a && a < r.base + r.size with
  | some r => r.kind
  | none => .ram

/-- The event numbers of 60 R590 a counter can select: 0 to 41 without the reserved and absent ones, and the Pentium
MMX events of that counter. The table is that of the P5 counters; the events of the P6 counters are not in the source, and
the model applies it to both families (DESIGN CHOICE, log 53). -/
def eventDefined (c : Config) (second : Bool) (n : Nat) : Bool :=
  if n ≤ 41 then !([16, 17, 28, 32, 33].contains n)
  else c.perfMmxEvents && n ≤ 59 && n != 42 && n != 44
    && (if second then n != 48 && n != 49 else n != 46 && n != 51)

end Sys2Proof.Machine
end

