-- ==== Sys2Proof/Machine/Flags.lean ====
section
/-! DEFINITION. The bits of EFLAGS (10_state R23, R24), of the control registers (10_state R35, R38), of the FPU words
(10_state R29, R33), and every flag computation of the instructions of this spec (10_state R25). -/

namespace Sys2Proof.Machine

/-- A word with one bit replaced. -/
def setBit {w : Nat} (v : BitVec w) (i : Nat) (b : Bool) : BitVec w :=
  if b then v ||| BitVec.twoPow w i else v &&& ~~~ BitVec.twoPow w i

/-! ## EFLAGS -/

/-- Bit positions of EFLAGS (10_state R23). -/
abbrev bitCF : Nat := 0
abbrev bitPF : Nat := 2
abbrev bitAF : Nat := 4
abbrev bitZF : Nat := 6
abbrev bitSF : Nat := 7
abbrev bitTF : Nat := 8
abbrev bitIF : Nat := 9
abbrev bitDF : Nat := 10
abbrev bitOF : Nat := 11
abbrev bitNT : Nat := 14
abbrev bitRF : Nat := 16
abbrev bitVM : Nat := 17
abbrev bitAC : Nat := 18
abbrev bitVIF : Nat := 19
abbrev bitVIP : Nat := 20
abbrev bitID : Nat := 21

/-- One flag of EFLAGS. -/
def State.flag (s : State) (i : Nat) : Bool := s.eflags.getLsbD i

/-- IOPL, bits 13:12 (10_state R23). -/
def State.iopl (s : State) : BitVec 2 := s.eflags.extractLsb' 12 2

/-- The bits of EFLAGS that hold a flag; bits 3, 5, 15 and 31:22 read as 0, bit 1 as 1 (10_state R23, log 39). -/
def eflagsMask : Dword := 0x003F7FD5

/-- What EFLAGS holds when `v` is loaded into it (log 39). -/
def sanitizeEflags (v : Dword) : Dword := (v &&& eflagsMask) ||| 2

/-- The fixed bits read as 10_state R23 says. -/
def eflagsOk (v : Dword) : Bool := v == sanitizeEflags v

/-- Write one flag. -/
def State.setFlag (s : State) (i : Nat) (b : Bool) : State := { s with eflags := setBit s.eflags i b }

/-- ZF, PF and CF of the FCOMI family; no other flag (47 R402). -/
def State.setCompareFlags (s : State) (z p c : Bool) : State :=
  { s with eflags := setBit (setBit (setBit s.eflags bitZF z) bitPF p) bitCF c }

/-- The condition of CMOVcc number `cc`, each even one and its negation (30_encoding R166, 47 R397). -/
def condition (fl : Dword) (cc : Nat) : Bool :=
  let cf := fl.getLsbD bitCF
  let pf := fl.getLsbD bitPF
  let zf := fl.getLsbD bitZF
  let sf := fl.getLsbD bitSF
  let of := fl.getLsbD bitOF
  match cc with
  | 0 => of
  | 1 => !of
  | 2 => cf
  | 3 => !cf
  | 4 => zf
  | 5 => !zf
  | 6 => cf || zf
  | 7 => !cf && !zf
  | 8 => sf
  | 9 => !sf
  | 10 => pf
  | 11 => !pf
  | 12 => sf != of
  | 13 => sf == of
  | 14 => zf || (sf != of)
  | _ => !zf && (sf == of)

/-! ## CR0 and CR4 -/

/-- CR0 bits (10_state R35). -/
def State.pe (s : State) : Bool := s.cr0.getLsbD 0
def State.em (s : State) : Bool := s.cr0.getLsbD 2
def State.ts (s : State) : Bool := s.cr0.getLsbD 3
def State.wp (s : State) : Bool := s.cr0.getLsbD 16
def State.am (s : State) : Bool := s.cr0.getLsbD 18
def State.pg (s : State) : Bool := s.cr0.getLsbD 31

/-- The CR0 combinations RSM shuts down on: PG = 1 and PE = 0, or NW = 1 and CD = 0 (10_state R35, 46 R366). -/
def cr0Illegal (v : Dword) : Bool :=
  (v.getLsbD 31 && !v.getLsbD 0) || (v.getLsbD 29 && !v.getLsbD 30)

/-- CR4 bits (10_state R38). -/
def State.vme (s : State) : Bool := s.cr4.getLsbD 0
def State.pvi (s : State) : Bool := s.cr4.getLsbD 1
def State.tsd (s : State) : Bool := s.cr4.getLsbD 2
def State.de (s : State) : Bool := s.cr4.getLsbD 3
def State.pse (s : State) : Bool := s.cr4.getLsbD 4
def State.pae (s : State) : Bool := s.cr4.getLsbD 5
def State.pge (s : State) : Bool := s.cr4.getLsbD 7
def State.pce (s : State) : Bool := s.cr4.getLsbD 8

/-! ## The FPU words -/

/-- TOS, status word bits 13:11 (10_state R29). -/
def State.tos (s : State) : RegNum := s.fsw.extractLsb' 11 3

/-- A status word with another TOS. -/
def withTos (v : Word16) (t : RegNum) : Word16 :=
  v.extractLsb' 14 2 ++ t ++ v.extractLsb' 0 11

/-- `FPU_ExceptionPending`, status word bit ES (10_state R34). -/
def State.fpuPending (s : State) : Bool := s.fsw.getLsbD 7

/-- The invalid-operation mask IM, control word bit 0 (10_state R33). -/
def State.invalidMasked (s : State) : Bool := s.fcw.getLsbD 0

/-- Status word bits (10_state R29). -/
abbrev bitIE : Nat := 0
abbrev bitStackFault : Nat := 6
abbrev bitES : Nat := 7
abbrev bitC0 : Nat := 8
abbrev bitC1 : Nat := 9
abbrev bitC2 : Nat := 10
abbrev bitC3 : Nat := 14
abbrev bitB : Nat := 15

/-- An unmasked FPU exception becomes pending: ES, and B which follows it (10_state R34, log 36). -/
def raisePending (v : Word16) : Word16 := setBit (setBit v bitES true) bitB true

/-- Field `k` of the tag word (10_state R30). -/
def State.tag (s : State) (k : RegNum) : BitVec 2 := s.ftw.extractLsb' (2 * k.toNat) 2

/-- A tag word with field `k` replaced. -/
def withTag (v : Word16) (k : RegNum) (t : BitVec 2) : Word16 :=
  (v &&& ~~~ ((3 : Word16) <<< (2 * k.toNat))) ||| (t.setWidth 16 <<< (2 * k.toNat))

end Sys2Proof.Machine
end

