-- ==== Sys2Proof/Machine/Regs.lean ====
section
/-! DEFINITION. The one home of every register read and write: general registers, MMX and FPU stack registers,
segments, debug registers, modes, and the free values. -/

namespace Sys2Proof.Machine

/-! ## Modes -/

/-- The four modes (00_scope R12). -/
inductive Mode where
  | real
  | prot
  | v86
  | smm
deriving DecidableEq, Repr

/-- The mode the machine is in (00_scope R12, 60 R515; SMM decides first, log 40). -/
def State.mode (s : State) : Mode :=
  if s.inSmm then .smm
  else if s.pe then (if s.flag bitVM then .v86 else .prot)
  else .real

/-- CPL: 0 in real-address mode and SMM, 3 in virtual-8086 mode (60 R515, log 40). -/
def State.cplNow (s : State) : BitVec 2 :=
  match s.mode with
  | .real => 0
  | .smm => 0
  | .v86 => 3
  | .prot => s.cpl

/-- The default operand and address size is 32 bits: a 32-bit code segment of protected mode (30_encoding R147). -/
def State.bigCode (s : State) : Bool :=
  match s.mode with
  | .prot => s.segs.cs.big
  | _ => false

/-! ## General registers -/

/-- `R32[n]` (10_state R20, 30_encoding R146). -/
def State.r32 (s : State) (n : RegNum) : Dword := s.gpr[n.toNat]

/-- `R32[n] <- v`. -/
def State.setR32 (s : State) (n : RegNum) (v : Dword) : State :=
  { s with gpr := s.gpr.set n.toNat v n.isLt }

/-- `R16[n]`, the low half (00_scope R9). -/
def State.r16 (s : State) (n : RegNum) : Word16 := (s.r32 n).extractLsb' 0 16

/-- `R16[n] <- v`: bits 31:16 stay (00_scope R9, log 52). -/
def State.setR16 (s : State) (n : RegNum) (v : Word16) : State :=
  s.setR32 n ((s.r32 n).extractLsb' 16 16 ++ v)

/-- Register numbers by name (10_state R20). -/
abbrev rEAX : RegNum := 0
abbrev rECX : RegNum := 1
abbrev rEDX : RegNum := 2
abbrev rEBX : RegNum := 3
abbrev rESP : RegNum := 4
abbrev rEBP : RegNum := 5
abbrev rESI : RegNum := 6
abbrev rEDI : RegNum := 7

/-- EDX:EAX as one 64-bit value (00_scope R9). -/
def State.edxEax (s : State) : Qword := s.r32 rEDX ++ s.r32 rEAX

/-- ECX:EBX as one 64-bit value. -/
def State.ecxEbx (s : State) : Qword := s.r32 rECX ++ s.r32 rEBX

/-- EDX:EAX <- v. -/
def State.setEdxEax (s : State) (v : Qword) : State :=
  (s.setR32 rEDX (v.extractLsb' 32 32)).setR32 rEAX (v.extractLsb' 0 32)

/-- An instruction that completes: EIP moves past it, modulo 2^32 (10_state R22, 92_eei D3). -/
def State.advance (s : State) (len : Nat) : State :=
  { s with eip := s.eip + BitVec.ofNat 32 len }

/-! ## MMX and FPU registers -/

/-- `MM[n]`, the significand of physical register `n` (10_state R26). -/
def State.mm (s : State) (n : RegNum) : Qword := (s.fpr[n.toNat]).extractLsb' 0 64

/-- `MM[n] <- v`: sign and exponent become ones (10_state R27). -/
def State.setMm (s : State) (n : RegNum) (v : Qword) : State :=
  { s with fpr := s.fpr.set n.toNat (0xFFFF#16 ++ v) n.isLt }

/-- What every completed MMX instruction does to the FPU words: this tag word, TOS = 000 (10_state R29 to R31). -/
def State.mmxDone (s : State) (tags : Word16) : State :=
  { s with ftw := tags, fsw := withTos s.fsw 0 }

/-- The physical register of ST(i) (10_state R28). -/
def State.stIndex (s : State) (i : RegNum) : RegNum := s.tos + i

/-- `ST(i)`. -/
def State.st (s : State) (i : RegNum) : FpuReg := s.fpr[(s.stIndex i).toNat]

/-- `ST(i) <- v`, all 80 bits. -/
def State.setSt (s : State) (i : RegNum) (v : FpuReg) : State :=
  { s with fpr := s.fpr.set (s.stIndex i).toNat v (s.stIndex i).isLt }

/-- ST(i) is tagged empty: 11 (10_state R30). The tags 01 and 10, which R30 says the source does not describe, are not empty
(DESIGN CHOICE, log 38). -/
def State.stEmpty (s : State) (i : RegNum) : Bool := s.tag (s.stIndex i) == 3

/-- Pop: ST(0) becomes empty, TOS goes up by one modulo 8 (47 R402 step 7). -/
def State.popSt (s : State) : State :=
  { s with ftw := withTag s.ftw s.tos 3, fsw := withTos s.fsw (s.tos + 1) }

/-! ## Segments and debug registers -/

/-- The segment register of a name. -/
def SegFile.get (f : SegFile) : SegName → Seg
  | .es => f.es
  | .cs => f.cs
  | .ss => f.ss
  | .ds => f.ds
  | .fs => f.fs
  | .gs => f.gs

/-- Loading a selector outside protected mode: base is the selector times 16, limit and attributes stay (10_state R41,
60 R564). -/
def Seg.loadReal (g : Seg) (sel : Word16) : Seg :=
  { g with sel := sel, base := sel.setWidth 32 <<< 4 }

/-- A segment register loaded with 0 when virtual-8086 mode is left (60 R532). -/
def Seg.cleared (g : Seg) : Seg := { g with sel := 0 }

/-- Whether a debug register number is 4 or 5, which CR4.DE makes an error (10_state R38). -/
def drAliased (n : RegNum) : Bool := n == 4 || n == 5

/-- DRn; 4 and 5 are 6 and 7 (10_state R38). -/
def DebugRegs.get (d : DebugRegs) (n : RegNum) : Dword :=
  match n.toNat with
  | 0 => d.dr0
  | 1 => d.dr1
  | 2 => d.dr2
  | 3 => d.dr3
  | 4 => d.dr6
  | 6 => d.dr6
  | _ => d.dr7

/-- DRn <- v, all 32 bits as written: the formats of DR6 and DR7 are not in the source (60 R592), and the model gives them
no fixed or reserved bit (DESIGN CHOICE, log 54). -/
def DebugRegs.put (d : DebugRegs) (n : RegNum) (v : Dword) : DebugRegs :=
  match n.toNat with
  | 0 => { d with dr0 := v }
  | 1 => { d with dr1 := v }
  | 2 => { d with dr2 := v }
  | 3 => { d with dr3 := v }
  | 4 => { d with dr6 := v }
  | 6 => { d with dr6 := v }
  | _ => { d with dr7 := v }

/-! ## Free values -/

/-- The next free value, `w` bits wide (log 5). -/
def State.free (s : State) (w : Nat) : BitVec w := Config.freeBits w s.draws

/-- The state after one free value was used. -/
def State.drew (s : State) : State := { s with draws := s.draws + 1 }

end Sys2Proof.Machine
end

