-- ==== Sys2Proof/Machine/Memory.lean ====
section
/-! DEFINITION. Physical memory: its canonical form, its reads and writes, byte order (20_memory R80), and the outcome
type the operations of the machine share. -/

namespace Sys2Proof.Machine

/-! ## Results of an operation -/

/-- Why a step stops without a next state. -/
inductive Stop where
  | fault (f : Fault)
  | refused (r : Refusal)
deriving DecidableEq, Repr

/-- What an operation answers: a value and the state after it, an exception to take (all state the operation wrote is
dropped, 60 R506), or a stop. -/
inductive Res (α : Type) where
  | ok (a : α) (s : State)
  | exn (e : Exn)
  | stop (x : Stop)
deriving DecidableEq, Repr

/-- One operation after another. -/
def Res.bind {α β : Type} (r : Res α) (k : α → State → Res β) : Res β :=
  match r with
  | .ok a s => k a s
  | .exn e => .exn e
  | .stop x => .stop x

/-- The outcome of a step that stops. -/
def Stop.outcome : Stop → Host.Outcome State Fault Refusal
  | .fault f => .fault f
  | .refused r => .refused r

/-! ## Bytes by address -/

/-- What an address that no entry lists reads as (DESIGN CHOICE, log 4). -/
def blankByte : Byte := 0

/-- The byte at an address. -/
def readByte : Memory → Nat → Byte
  | [], _ => blankByte
  | (x, v) :: t, a => if a < x then blankByte else if a = x then v else readByte t a

/-- The memory with one byte written, in the canonical form again. -/
def writeByte : Memory → Nat → Byte → Memory
  | [], a, v => if v = blankByte then [] else [(a, v)]
  | (x, u) :: t, a, v =>
    if a < x then (if v = blankByte then (x, u) :: t else (a, v) :: (x, u) :: t)
    else if a = x then (if v = blankByte then t else (a, v) :: t)
    else (x, u) :: writeByte t a v

/-- The canonical form: addresses strictly rising, no entry equal to what an unlisted address reads as. -/
abbrev Memory.wf (m : Memory) : Prop :=
  m.Pairwise (fun c d => c.1 < d.1) ∧ ∀ c ∈ m, c.2 ≠ blankByte

/-- The bytes at a list of addresses. -/
def readBytes (m : Memory) (as : List Nat) : List Byte := as.map (readByte m)

/-- Bytes written one after another. -/
def writeBytes (m : Memory) : List (Nat × Byte) → Memory
  | [] => m
  | (a, v) :: t => writeBytes (writeByte m a v) t

/-! ## Byte order -/

/-- The `w`-bit value of bytes, the lowest address least significant (20_memory R80). -/
def leValue (w : Nat) : List Byte → BitVec w
  | [] => 0
  | b :: t => (leValue w t <<< 8) ||| b.setWidth w

/-- The `n` bytes of a value, least significant first (20_memory R80). -/
def leBytes {w : Nat} (n : Nat) (v : BitVec w) : List Byte :=
  (List.range n).map fun k => v.extractLsb' (8 * k) 8

/-! ## Physical accesses -/

/-- SMRAM is a space of its own and the machine is in SMM (10_state R50 (c), log 18). -/
def State.inSmramSpace (s : State) : Bool := s.cfg.smramSeparate && s.inSmm

/-- The physical memory an access sees. -/
def State.physMem (s : State) : Memory := if s.inSmramSpace then s.smram else s.mem

/-- The state with that memory replaced. -/
def State.setPhysMem (s : State) (m : Memory) : State :=
  if s.inSmramSpace then { s with smram := m } else { s with mem := m }

/-- What stands at a physical address; the address map describes main memory (log 19). -/
def State.kind (s : State) (a : Nat) : RegionKind :=
  if s.inSmramSpace then .ram else kindAt s.cfg a

/-- Why an access to an address stops, if it does (70_reset R604, 92_eei D8). -/
def State.stopAt (s : State) (a : Nat) : Option Stop :=
  match s.kind a with
  | .ram => none
  | .rom => none
  | .device => some (.refused (.deviceRegion a))
  | .absent => some (.fault (.nothingMapped a))

/-- Read the bytes at physical addresses, or stop at the first one that has none. -/
def State.readPhys (s : State) (as : List Nat) : Res (List Byte) :=
  match as.findSome? s.stopAt with
  | some x => .stop x
  | none => .ok (readBytes s.physMem as) s

/-- Whether a store changes the byte at an address (log 19). -/
def State.stores (s : State) (a : Nat) : Bool := s.kind a != .rom

/-- Write bytes at physical addresses; read-only memory keeps its bytes (log 19). -/
def State.writePhys (s : State) (cells : List (Nat × Byte)) : Res Unit :=
  match (cells.map Prod.fst).findSome? s.stopAt with
  | some x => .stop x
  | none => .ok () (s.setPhysMem (writeBytes s.physMem (cells.filter fun c => s.stores c.1)))

/-- `n` consecutive physical addresses. -/
def span (a n : Nat) : List Nat := (List.range n).map fun k => a + k

end Sys2Proof.Machine
end

