-- ==== Sys2Proof/Machine/Paging.lean ====
section
/-! DEFINITION. Linear to physical addresses (20_memory R102 to R120): the walks, protection, the A and D bits, the
remembered walks. -/

namespace Sys2Proof.Machine

/-- How an access is made: by CPL 3 code or not, and for a write or not (20_memory R116). -/
structure Access where
  user : Bool
  write : Bool
deriving DecidableEq, Repr

/-- The page-fault error code (60 R510, log 22): P, W/R, U/S, RSVD. -/
def pfCode (present : Bool) (acc : Access) (rsvd : Bool) : Dword :=
  setBit (setBit (setBit (setBit 0 0 present) 1 acc.write) 2 acc.user) 3 rsvd

/-- #PF for an entry that is not present. -/
def notPresent {α : Type} (acc : Access) (la : Dword) : Res α := .exn (.pf (pfCode false acc false) la)

/-- #PF for a reserved bit (20_memory R110). -/
def reservedBit {α : Type} (acc : Access) (la : Dword) : Res α := .exn (.pf (pfCode true acc true) la)

/-- #PF for a protection violation (20_memory R116). -/
def protection {α : Type} (acc : Access) (la : Dword) : Res α := .exn (.pf (pfCode true acc false) la)

/-- A translation that allows an access of this kind (20_memory R116). -/
def permits (wp : Bool) (e : TlbEntry) (acc : Access) : Bool :=
  if acc.user then e.user && (!acc.write || e.writable) else !acc.write || e.writable || !wp

/-- A walk's result: the translation and the entries whose A bit it sets. -/
structure Walk where
  entry : TlbEntry
  accessed : List Nat
deriving DecidableEq, Repr

/-- Bits `lo` to `lo + n - 1` of a value, as a number. -/
def field (w : Nat) (v : BitVec w) (lo n : Nat) : Nat := (v.extractLsb' lo n).toNat

/-- One entry of a paging structure: `n` bytes at a physical address. -/
def State.readEntry (s : State) (a n : Nat) : Res (BitVec 64) :=
  (s.readPhys (span a n)).bind fun bs s => .ok (leValue 64 bs) s

/-- P, R/W, U/S, D, PS and G of an entry (20_memory R107 to R109, R114). -/
def entP (e : BitVec 64) : Bool := e.getLsbD 0
def entW (e : BitVec 64) : Bool := e.getLsbD 1
def entU (e : BitVec 64) : Bool := e.getLsbD 2
def entD (e : BitVec 64) : Bool := e.getLsbD 6
def entPS (e : BitVec 64) : Bool := e.getLsbD 7
def entG (e : BitVec 64) : Bool := e.getLsbD 8

/-- The translation a leaf entry and its parent give. -/
def leafEntry (la : Dword) (shift frame : Nat) (pde leaf : BitVec 64) (leafAddr : Nat) : TlbEntry where
  page := la.toNat >>> shift
  shift := shift
  frame := frame
  user := entU pde && entU leaf
  writable := entW pde && entW leaf
  global := entG leaf
  dirty := entD leaf
  leaf := leafAddr

/-- The 32-bit walk (20_memory R104 to R106). The reserved bits it checks are those 20_memory R110 lists; bit 7 of a
page-table entry, which R107 calls reserved and R110 leaves out, is not (DESIGN CHOICE, log 56). -/
def State.walk32 (s : State) (la : Dword) (acc : Access) : Res Walk :=
  let pdeAddr := field 32 s.cr3 12 20 <<< 12 + field 32 la 22 10 * 4
  (s.readEntry pdeAddr 4).bind fun pde s =>
    if !entP pde then notPresent acc la
    else if s.pse && entPS pde then
      if field 64 pde 12 10 ≠ 0 then reservedBit acc la
      else .ok ⟨leafEntry la 22 (field 64 pde 22 10 <<< 22) pde pde pdeAddr, [pdeAddr]⟩ s
    else
      let pteAddr := field 64 pde 12 20 <<< 12 + field 32 la 12 10 * 4
      (s.readEntry pteAddr 4).bind fun pte s =>
        if !entP pte then notPresent acc la
        else .ok ⟨leafEntry la 12 (field 64 pte 12 20 <<< 12) pde pte pteAddr, [pdeAddr, pteAddr]⟩ s

/-- Bits 63:36 of an extended entry (20_memory R110, R114). -/
def highReserved (e : BitVec 64) : Bool := field 64 e 36 28 ≠ 0

/-- The walk with physical address extension (20_memory R112 to R114). The entry of the pointer table is read from memory
at every walk (DESIGN CHOICE, log 55: R112 leaves open whether it is read once, when CR3 is loaded). The reserved bits are
those of R110; the bits R114 prints as 0 in the other entries are not checked (DESIGN CHOICE, log 56). -/
def State.walkPae (s : State) (la : Dword) (acc : Access) : Res Walk :=
  let pdpteAddr := field 32 s.cr3 5 27 <<< 5 + field 32 la 30 2 * 8
  (s.readEntry pdpteAddr 8).bind fun pdpte s =>
    if !entP pdpte then notPresent acc la
    else if highReserved pdpte || field 64 pdpte 1 2 ≠ 0 || field 64 pdpte 5 4 ≠ 0 then reservedBit acc la
    else
      let pdeAddr := field 64 pdpte 12 24 <<< 12 + field 32 la 21 9 * 8
      (s.readEntry pdeAddr 8).bind fun pde s =>
        if !entP pde then notPresent acc la
        else if highReserved pde then reservedBit acc la
        else if entPS pde then
          if field 64 pde 12 9 ≠ 0 then reservedBit acc la
          else .ok ⟨leafEntry la 21 (field 64 pde 21 15 <<< 21) pde pde pdeAddr, [pdeAddr]⟩ s
        else
          let pteAddr := field 64 pde 12 24 <<< 12 + field 32 la 12 9 * 8
          (s.readEntry pteAddr 8).bind fun pte s =>
            if !entP pte then notPresent acc la
            else if highReserved pte then reservedBit acc la
            else .ok ⟨leafEntry la 12 (field 64 pte 12 24 <<< 12) pde pte pteAddr, [pdeAddr, pteAddr]⟩ s

/-- The walk CR4.PAE selects (20_memory R102). -/
def State.walk (s : State) (la : Dword) (acc : Access) : Res Walk :=
  if s.pae then s.walkPae la acc else s.walk32 la acc

/-- Set bits in the low byte of paging entries: A is bit 5, D is bit 6 (20_memory R107, R109). -/
def State.markEntries (s : State) (as : List Nat) (bits : Byte) : Res Unit :=
  s.writePhys (as.map fun a => (a, readByte s.physMem a ||| bits))

/-- A remembered walk covers a linear address. -/
def covers (e : TlbEntry) (la : Dword) : Bool := la.toNat >>> e.shift == e.page

/-- The physical address a translation gives. -/
def physOf (e : TlbEntry) (la : Dword) : Nat := e.frame + la.toNat % 2 ^ e.shift

/-- The first write through a translation sets the D bit of its leaf entry (20_memory R117, 92_eei D10). -/
def State.dirtyLeaf (s : State) (e : TlbEntry) (acc : Access) : Res Unit :=
  if acc.write && !e.dirty then
    (s.markEntries [e.leaf] 0x40).bind fun _ s =>
      .ok () { s with tlb := s.tlb.map fun t => if t == e then { t with dirty := true } else t }
  else .ok () s

/-- Translate through a remembered walk: its own protection bits, and D at its first write (20_memory R117, R118). -/
def State.through (s : State) (e : TlbEntry) (la : Dword) (acc : Access) : Res Nat :=
  if permits s.wp e acc then (s.dirtyLeaf e acc).bind fun _ s => .ok (physOf e la) s
  else protection acc la

/-- Translate by a fresh walk: it sets A in the entries it used and is remembered (20_memory R117). -/
def State.freshWalk (s : State) (la : Dword) (acc : Access) : Res Nat :=
  (s.walk la acc).bind fun w s =>
    if permits s.wp w.entry acc then
      (s.markEntries w.accessed 0x20).bind fun _ s =>
        (State.dirtyLeaf { s with tlb := w.entry :: s.tlb } w.entry acc).bind fun _ s =>
          .ok (physOf w.entry la) s
    else protection acc la

/-- Translate with paging on: through a remembered walk or by a fresh one, as the next free pick says (20_memory R118,
92_eei D10, log 20). -/
def State.translatePaged (s : State) (la : Dword) (acc : Access) : Res Nat :=
  match (s.tlb.filter fun e => covers e la)[Config.tlbPick s.draws]? with
  | some e => s.drew.through e la acc
  | none => s.drew.freshWalk la acc

/-- `PhysAddrBits` (00_scope R6, 10_state R50): 36 on P6 with CR4.PAE and CR0.PG set, else 32. -/
def State.physAddrBits (s : State) : Nat := if isP6 s.cfg && s.pae && s.pg then 36 else 32

/-- The physical address of a linear address (20_memory R102, R103). -/
def State.translate (s : State) (la : Dword) (acc : Access) : Res Nat :=
  if s.pg then s.translatePaged la acc else .ok la.toNat s

/-- The linear address of byte `k` of an operand, modulo 2^32 (20_memory R86). -/
def linByte (lin : Dword) (k : Nat) : Dword := lin + BitVec.ofNat 32 k

/-- The first address of the last byte's page. -/
def lastPage (lin : Dword) (n : Nat) : Dword := linByte lin (n - 1) &&& 0xFFFFF000

/-- How many of the `n` bytes lie in the first byte's 4-KB page. -/
def inFirstPage (lin : Dword) (n : Nat) : Nat := min n (4096 - lin.toNat % 4096)

/-- The physical addresses of the `n` bytes at a linear address; both pages of an operand that straddles two are
translated before any byte is accessed (20_memory R91). Where both fail, the page of the first byte raises its #PF (DESIGN
CHOICE, log 68: R87 and R91 do not say which). -/
def State.linAddrs (s : State) (lin : Dword) (n : Nat) (acc : Access) : Res (List Nat) :=
  if !s.pg then .ok ((List.range n).map fun k => (linByte lin k).toNat) s
  else
    (s.translate lin acc).bind fun pa s =>
      let k := inFirstPage lin n
      if k = n then .ok (span pa n) s
      else (s.translate (lastPage lin n) acc).bind fun pb s => .ok (span pa k ++ span pb (n - k)) s

/-- Forget the remembered walks; with CR4.PGE the global ones stay (20_memory R119). -/
def State.flushTlb (s : State) : State :=
  { s with tlb := if s.pge then s.tlb.filter (·.global) else [] }

end Sys2Proof.Machine
end

