-- ==== Sys2Proof/Machine/Ops.lean ====
section
/-! DEFINITION. The operations the meanings share: the checks of a memory operand (20_memory R87, R88), its reads and
writes, and taking an exception or interrupt (60_exceptions R501, R528, R532, R566), one operation for all of them. -/

namespace Sys2Proof.Machine

/-! ## Memory operands -/

/-- The linear address of an effective address (20_memory R86). -/
def State.lin (s : State) (seg : SegName) (ea : Dword) : Dword := (s.segs.get seg).base + ea

/-- #SS through SS, #GP through any other segment register (20_memory R88, 60 R507, R508). -/
def segExn (seg : SegName) : Exn := if seg = .ss then .ss else .gp

/-- The registers whose null selector is an error of an access (20_memory R88). -/
def nullable (seg : SegName) : Bool := seg == .ds || seg == .es || seg == .fs || seg == .gs

/-- The limit of a segment (20_memory R88): the hidden part's in protected mode, FFFFh in real-address and virtual-8086
mode, FFFFFFFFh in SMM. -/
def State.limitOf (s : State) (seg : SegName) : Dword :=
  match s.mode with
  | .prot => (s.segs.get seg).limit
  | .real => 0x0000FFFF
  | .v86 => 0x0000FFFF
  | .smm => 0xFFFFFFFF

/-- The segment checks (20_memory R88, log 23): a null selector and a store to a segment that is not writable in
protected mode, the limit of the mode in every mode. -/
def State.segCheck (s : State) (seg : SegName) (ea : Dword) (n : Nat) (write : Bool) : Option Exn :=
  if s.mode = .prot && nullable seg && (s.segs.get seg).sel == 0 then some .gp
  else if s.mode = .prot && write && !(s.segs.get seg).writable then some .gp
  else if ea.toNat + n - 1 > (s.limitOf seg).toNat then some (segExn seg)
  else none

/-- Alignment checking is enabled: CPL 3, CR0.AM and EFLAGS.AC (20_memory R83, 60 R509). -/
def State.alignChecked (s : State) : Bool := s.cplNow == 3 && s.am && s.flag bitAC

/-- The alignment check of an `n`-byte operand at a linear address (log 24). -/
def State.misaligned (s : State) (lin : Dword) (n : Nat) : Bool := s.alignChecked && lin.toNat % n != 0

/-- An access of the running program (20_memory R116). -/
def State.access (s : State) (write : Bool) : Access := ⟨s.cplNow == 3, write⟩

/-- The physical addresses of the `n` bytes at `seg:ea` for an access of some kind, after the segment checks and
translation. -/
def State.segAddrs (s : State) (seg : SegName) (ea : Dword) (n : Nat) (acc : Access) : Res (List Nat) :=
  match s.segCheck seg ea n acc.write with
  | some e => .exn e
  | none => s.linAddrs (s.lin seg ea) n acc

/-- The physical addresses of a memory operand, after the checks of 20_memory R87 in their order: segment, alignment,
page. -/
def State.operandAddrs (s : State) (seg : SegName) (ea : Dword) (n : Nat) (write : Bool) : Res (List Nat) :=
  match s.segCheck seg ea n write with
  | some e => .exn e
  | none =>
    if s.misaligned (s.lin seg ea) n then .exn .ac
    else s.linAddrs (s.lin seg ea) n (s.access write)

/-- `MemRead(seg:ea, n)` (20_memory R87). -/
def State.load (s : State) (seg : SegName) (ea : Dword) (n : Nat) : Res (List Byte) :=
  (s.operandAddrs seg ea n false).bind fun as s => s.readPhys as

/-- `MemWrite(seg:ea, n, v)`: all checks of all bytes come before the first byte is written (20_memory R87, R91). -/
def State.store (s : State) (seg : SegName) (ea : Dword) (bs : List Byte) : Res Unit :=
  (s.operandAddrs seg ea bs.length true).bind fun as s => s.writePhys (as.zip bs)

/-! ## Exceptions and interrupts: what is raised -/

/-- The vector of an exception (60 R500). -/
def Exn.vector : Exn → Byte
  | .ud => 6
  | .nm => 7
  | .ss => 12
  | .gp => 13
  | .pf _ _ => 14
  | .mf => 16
  | .ac => 17

/-- The error code of an exception that has one (60 R500). -/
def Exn.code : Exn → Option Dword
  | .ud => none
  | .nm => none
  | .ss => some 0
  | .gp => some 0
  | .pf code _ => some code
  | .mf => none
  | .ac => some 0

/-- What is delivered. -/
inductive Cause where
  /-- An exception of an instruction. -/
  | exn (e : Exn)
  /-- The #GP of a maskable interrupt that VIF defers (60 R532, R538). -/
  | deferred
  /-- The #GP of STI with VIP = 1 under virtual interrupts (60 R533, R536). -/
  | stiPending
  /-- The debug exception of a single step, vector 1 (60 R500, R592, log 62). -/
  | singleStep
  /-- NMI, vector 2. -/
  | nmi
  /-- A maskable hardware interrupt. -/
  | intr (v : Byte)
  /-- INT n through the base mechanism (60 R526 methods 1 and 4, and outside virtual-8086 mode). -/
  | soft (v : Byte)
  /-- INT n redirected to the 8086 program (60 R526 method 5). -/
  | redirected (v : Byte)
deriving DecidableEq, Repr, Inhabited

/-- The vector of what is delivered. -/
def Cause.vector : Cause → Byte
  | .exn e => e.vector
  | .deferred => 13
  | .stiPending => 13
  | .singleStep => 1
  | .nmi => 2
  | .intr v => v
  | .soft v => v
  | .redirected v => v

/-- Its error code. -/
def Cause.code : Cause → Option Dword
  | .exn e => e.code
  | .deferred => some 0
  | .stiPending => some 0
  | .singleStep => none
  | .nmi => none
  | .intr _ => none
  | .soft _ => none
  | .redirected _ => none

/-! ## Delivery the spec leaves to a parameter (60 R501, 92_eei D17) -/

/-- The state a base-machine delivery leaves, as far as any gate, stack switch or task switch could write it. -/
structure Entry where
  gpr : Vector Dword 8
  eip : Dword
  eflags : Dword
  segs : SegFile
  cpl : BitVec 2
  /-- LDTR, TR, CR3 and DR7 of the new task; read only where a task was switched. -/
  ldtr : SysSeg
  tr : SysSeg
  cr3 : Dword
  dr7 : Dword
  taskSwitched : Bool
  /-- The linear addresses the delivery accessed, each for a write or not, before and after the task switch. -/
  before : List (Dword × Bool)
  after : List (Dword × Bool)
  /-- The bytes it wrote, by physical address. -/
  writes : List Host.Cell
deriving DecidableEq, Repr, Inhabited

/-- `Deliver` of 00_scope R6: the handler's entry state, or shutdown. -/
inductive Delivered where
  | entry (e : Entry)
  | shutdown
deriving DecidableEq, Repr, Inhabited

/-- An interrupt gate and the privilege-level-0 stack it selects, as the base machine reads them for an interrupt of
virtual-8086 mode (log 8). -/
structure Gate where
  cs : Seg
  eip : Dword
  ss : Seg
  esp : Dword
  /-- TF, IF, NT and RF of the handler. -/
  flags : Dword
deriving DecidableEq, Repr, Inhabited

/-- FREE VALUE (log 6): the base machine's delivery from this state, with this saved EIP. -/
opaque deliverFree (s : State) (c : Cause) (savedEip : Dword) : Delivered

/-- FREE VALUE (log 8): the gate the base machine uses; none where it is a task gate or cannot be used. -/
opaque gateFree (s : State) (c : Cause) : Option Gate

/-- The bytes a free delivery may write: physical addresses of the machine's width (00_scope R6). -/
def entryCells (s : State) (ws : List Host.Cell) : List Host.Cell :=
  (ws.map fun c => (c.1 % 2 ^ s.physAddrBits, c.2)).filter fun c => s.stores c.1

/-- CR2 after an exception: the linear address of a failed translation (20_memory R117, 60 R510), else as it was. -/
def Exn.cr2 (e : Exn) (old : Dword) : Dword :=
  match e with
  | .pf _ la => la
  | .ud => old
  | .nm => old
  | .ss => old
  | .gp => old
  | .mf => old
  | .ac => old

/-- A delivery, or the base machine after a failed one, raised `e` in turn: a failed translation leaves its linear address in
CR2 (20_memory R117, log 11). -/
def State.deliveryFailed (s : State) (e : Exn) : State :=
  { s with deliveryExn := some e, cr2 := e.cr2 s.cr2 }

/-- The paging side of the accesses of a free delivery: each translates with supervisor rights (20_memory R116), so that
the walks that succeed are remembered and mark their entries (20_memory R117, R118), and the first that fails raises its
exception (20_memory R117). An access whose walk meets a hole or a device of the address map is passed over (log 6). -/
def State.touch (s : State) : List (Dword × Bool) → Res Unit
  | [] => .ok () s
  | (la, write) :: t =>
    match s.translate la ⟨false, write⟩ with
    | .ok _ s' => s'.touch t
    | .exn e => .exn e
    | .stop _ => s.touch t

/-- The same for the base machine that takes over from a failed delivery: a translation that fails here too is recorded
and leaves its address in CR2, and what the base machine does about it is free (60 R514, log 11). -/
def State.touchAll (s : State) : List (Dword × Bool) → State
  | [] => s
  | (la, write) :: t =>
    match s.translate la ⟨false, write⟩ with
    | .ok _ s' => s'.touchAll t
    | .exn e => (s.deliveryFailed e).touchAll t
    | .stop _ => s.touchAll t

/-- A task switch of a delivery: LDTR, TR and DR7 are the new task's, TS is set, and CR3 is loaded, which forgets the
remembered walks as every load of CR3 does (20_memory R119). -/
def State.taskSwitch (s : State) (e : Entry) : State :=
  State.flushTlb { s with
    ldtr := e.ldtr, tr := e.tr, cr3 := e.cr3, cr0 := setBit s.cr0 3 true, dr := { s.dr with dr7 := e.dr7 } }

/-- A delivery switches tasks in protected and virtual-8086 mode only (log 6). -/
def State.switches (s : State) (e : Entry) : Bool := e.taskSwitched && (s.mode == .prot || s.mode == .v86)

/-- What a free delivery does between its two lists of accesses: its bytes, and a task switch. -/
def State.written (s : State) (e : Entry) : State :=
  let t := s.setPhysMem (writeBytes s.physMem (entryCells s e.writes))
  if t.switches e then t.taskSwitch e else t

/-- VIF and VIP. -/
def virtualFlags : Dword := 0x00180000

/-- EFLAGS of the handler: free, but VIF and VIP stay, which software alone writes (10_state R24); a task switch loads them
with the rest from the image that software left in the new task (log 6). -/
def State.entryFlags (s : State) (e : Entry) : Dword :=
  let v := sanitizeEflags e.eflags
  if s.switches e then v else (v &&& ~~~ virtualFlags) ||| (s.eflags &&& virtualFlags)

/-- The handler's registers. -/
def State.entered (s : State) (e : Entry) : State :=
  { s with gpr := e.gpr, eip := e.eip, eflags := s.entryFlags e, segs := e.segs, cpl := e.cpl }

/-- The base machine's delivery (log 6). The remembered walks it leaves are those there were and those of its own
accesses, none invented (20_memory R118, 92_eei D10). -/
def State.freeDelivery (s : State) (c : Cause) (savedEip : Dword) : Res Unit :=
  match deliverFree s c savedEip with
  | .shutdown => .ok () { s with shutdown := true }
  | .entry e =>
    (s.touch e.before).bind fun _ t =>
      ((t.written e).touch e.after).bind fun _ u => .ok () (u.entered e)

/-- The base machine after a failed delivery (60 R514, log 11): it always ends, in a handler or in shutdown. -/
def State.takenOver (s : State) (c : Cause) (savedEip : Dword) : State :=
  match deliverFree s c savedEip with
  | .shutdown => { s with shutdown := true }
  | .entry e => (((s.touchAll e.before).written e).touchAll e.after).entered e

/-! ## Delivery the spec describes -/

/-- A 16-bit push of a trap entry on SS:SP (60 R528), with supervisor rights whatever the CPL (20_memory R116: "the pushes
of a trap entry" count as supervisor, log 58). -/
def State.push16 (s : State) (v : Word16) : Res Unit :=
  let sp := s.r16 rESP - 2
  (s.segAddrs .ss (sp.setWidth 32) 2 ⟨false, true⟩).bind fun as s =>
    (s.writePhys (as.zip (leBytes 2 v))).bind fun _ s => .ok () (s.setR16 rESP sp)

/-- Bytes at a linear address, read with supervisor rights (20_memory R116). -/
def State.systemRead (s : State) (lin : Dword) (n : Nat) : Res (List Byte) :=
  (s.linAddrs lin n ⟨false, false⟩).bind fun as s => s.readPhys as

/-- FLAGS with NT and IOPL cleared (60 R528 step 1). -/
def flagsWithoutNtIopl (v : Word16) : Word16 := v &&& 0x8FFF

/-- Delivery in the manner of real-address mode through the table at linear address 0 (60 R528, R566, log 7):
FLAGS, CS and IP pushed, IF and TF cleared, CS:EIP from the table, no error code. -/
def State.realDelivery (s : State) (vector : Byte) (savedEip : Dword) (clearNtIopl : Bool) : Res Unit :=
  let flags := s.eflags.extractLsb' 0 16
  (s.push16 (if clearNtIopl then flagsWithoutNtIopl flags else flags)).bind fun _ s =>
    (s.push16 s.segs.cs.sel).bind fun _ s =>
      (s.push16 (savedEip.extractLsb' 0 16)).bind fun _ s =>
        (s.systemRead (vector.setWidth 32 <<< 2) 4).bind fun bs s =>
          .ok () { s with
            eflags := setBit (setBit s.eflags bitIF false) bitTF false
            segs := { s.segs with cs := s.segs.cs.loadReal (leValue 16 (bs.drop 2)) }
            eip := (leValue 16 (bs.take 2)).setWidth 32 }

/-- The EFLAGS image a privilege-level-0 frame holds: for a deferred interrupt IOPL = 3 and IF = VIF (60 R532); for every
other event EFLAGS as it is (DESIGN CHOICE, log 59: the rule speaks of the deferred interrupt only). -/
def State.flagsImage (s : State) (c : Cause) : Dword :=
  match c with
  | .deferred => setBit (setBit (setBit s.eflags 12 true) 13 true) bitIF (s.flag bitVIF)
  | _ => s.eflags

/-- The doublewords of the privilege-level-0 frame, from the lowest address up (60 R532). -/
def State.pl0Frame (s : State) (c : Cause) (savedEip : Dword) : List Dword :=
  c.code.toList ++ [savedEip, s.segs.cs.sel.setWidth 32, s.flagsImage c, s.r32 rESP, s.segs.ss.sel.setWidth 32,
    s.segs.es.sel.setWidth 32, s.segs.ds.sel.setWidth 32, s.segs.fs.sel.setWidth 32, s.segs.gs.sel.setWidth 32]

/-- TF, IF, NT and RF: what a gate decides (log 8). -/
def gateFlags : Dword := 0x00014300

/-- EFLAGS of the handler: VM = 0, the gate's TF, IF, NT and RF (60 R532, log 8). -/
def pl0Flags (old gate : Dword) : Dword :=
  (old &&& ~~~ (gateFlags ||| BitVec.twoPow 32 bitVM)) ||| (gate &&& gateFlags)

/-- From virtual-8086 mode to privilege level 0 (60 R532, log 8): the frame on the gate's stack, the data segment
registers cleared, VM = 0, the handler at CPL 0. -/
def State.pl0Delivery (s : State) (g : Gate) (c : Cause) (savedEip : Dword) : Res Unit :=
  let bytes := (s.pl0Frame c savedEip).flatMap (leBytes 4)
  let esp := g.esp - BitVec.ofNat 32 bytes.length
  if esp.toNat + bytes.length - 1 > g.ss.limit.toNat then .exn .ss
  else
    (s.linAddrs (g.ss.base + esp) bytes.length ⟨false, true⟩).bind fun as s =>
      (s.writePhys (as.zip bytes)).bind fun _ s =>
        .ok () { s.setR32 rESP esp with
          segs := ⟨s.segs.es.cleared, g.cs, g.ss, s.segs.ds.cleared, s.segs.fs.cleared, s.segs.gs.cleared⟩
          eip := g.eip
          eflags := pl0Flags s.eflags g.flags
          cpl := 0 }

/-- Method 6 of 60 R526: virtual-8086 mode with VME = 1 and IOPL below 3. -/
def State.method6 (s : State) : Bool := s.mode == .v86 && s.vme && s.iopl != 3

/-- Whether virtual-8086 mode hands an event to the 8086 program (60 R526, R530 as printed, log 9). -/
def State.redirects (s : State) (c : Cause) : Bool :=
  match c with
  | .exn _ => s.method6
  | .singleStep => s.method6
  | .nmi => s.method6
  | .intr _ => s.method6
  | .redirected _ => true
  | .deferred => false
  | .stiPending => false
  | .soft _ => false

/-- Deliver by the mode (60 R501): real-address mode and SMM through the table at 0, virtual-8086 mode by Table 9.1,
protected mode by the base mechanism. -/
def State.deliver (s : State) (c : Cause) (savedEip : Dword) : Res Unit :=
  match s.mode with
  | .real => s.realDelivery c.vector savedEip false
  | .smm => s.realDelivery c.vector savedEip false
  | .v86 =>
    if s.redirects c then s.realDelivery c.vector savedEip true
    else
      match gateFree s c with
      | some g => s.pl0Delivery g c savedEip
      | none => s.freeDelivery c savedEip
  | .prot => s.freeDelivery c savedEip

/-- CR2 after what is raised. -/
def Cause.cr2 (c : Cause) (old : Dword) : Dword :=
  match c with
  | .exn e => e.cr2 old
  | .deferred => old
  | .stiPending => old
  | .singleStep => old
  | .nmi => old
  | .intr _ => old
  | .soft _ => old
  | .redirected _ => old

/-- DR6 after what is raised: a debug exception leaves a status in it whose format the spec does not give, a free value
(60 R592, log 62). -/
def State.statusAfter (s : State) (c : Cause) : Dword := if c = .singleStep then s.free 32 else s.dr.dr6

/-- The raise side (60 R501, R510): what is recorded before delivery. The halt state ends, and an instruction that raised
leaves no single step to take. -/
def State.raised (s : State) (c : Cause) (savedEip : Dword) : State :=
  { s with
    lastExn := some ⟨c.vector, c.code, savedEip⟩
    deliveryExn := none
    cr2 := c.cr2 s.cr2
    dr := { s.dr with dr6 := s.statusAfter c }
    draws := if c = .singleStep then s.draws + 1 else s.draws
    stepTrap := false
    halted := false }

/-- TAKING AN EXCEPTION OR INTERRUPT: the one operation (60 R500 to R512). What an exception inside a delivery leads to is
the base machine's (60 R514, log 11). -/
def raise (c : Cause) (savedEip : Dword) (s : State) : Host.Outcome State Fault Refusal :=
  match (s.raised c savedEip).deliver c savedEip with
  | .ok _ t => .next t
  | .exn e => .next (((s.raised c savedEip).deliveryFailed e).takenOver c savedEip)
  | .stop x => x.outcome

/-- An instruction's fault: EIP saved is that of its first byte, nothing else of it is written (60 R506). -/
def takeException (e : Exn) (s : State) : Host.Outcome State Fault Refusal := raise (.exn e) s.eip s

/-- A software interrupt: an exception of its delivery is a fault of the INT n instruction, raised from the state before
it like every other fault of an instruction (20_memory R117, 60 R506). -/
def raiseSoftware (c : Cause) (savedEip : Dword) (s : State) : Host.Outcome State Fault Refusal :=
  match (s.raised c savedEip).deliver c savedEip with
  | .ok _ t => .next t
  | .exn e => takeException e s
  | .stop x => x.outcome

/-- The outcome of an instruction that started in `s`. -/
def Res.finish (r : Res Unit) (s : State) : Host.Outcome State Fault Refusal :=
  match r with
  | .ok _ t => .next t
  | .exn e => takeException e s
  | .stop x => x.outcome

end Sys2Proof.Machine
end

