-- ==== Sys2Proof/WellFormed.lean ====
section
/-! DEFINITION. Which instructions an encoding exists for, how long each is, and which configurations agree with
themselves. -/

namespace Sys2Proof

/-- What follows the opcode of an instruction. -/
inductive Body where
  /-- Nothing. -/
  | bare
  /-- ModR/M, SIB and displacement of one `r/m` operand. -/
  | rm (x : Rm)
  /-- ModR/M with `mod = 11` and an immediate byte. -/
  | imm
  /-- The second byte of an FPU form, which is the ModR/M byte (30_encoding R165). -/
  | stack
deriving DecidableEq, Repr

/-- The bytes before the opcode, and what follows it. -/
def Instr.parts : Instr → List Pfx × Body
  | .ud2 p => (p, .bare)
  | .wrmsr p => (p, .bare)
  | .rdtsc p => (p, .bare)
  | .rdmsr p => (p, .bare)
  | .rdpmc p => (p, .bare)
  | .cmovo p _ x => (p, .rm x)
  | .cmovno p _ x => (p, .rm x)
  | .cmovb p _ x => (p, .rm x)
  | .cmovae p _ x => (p, .rm x)
  | .cmove p _ x => (p, .rm x)
  | .cmovne p _ x => (p, .rm x)
  | .cmovbe p _ x => (p, .rm x)
  | .cmova p _ x => (p, .rm x)
  | .cmovs p _ x => (p, .rm x)
  | .cmovns p _ x => (p, .rm x)
  | .cmovp p _ x => (p, .rm x)
  | .cmovnp p _ x => (p, .rm x)
  | .cmovl p _ x => (p, .rm x)
  | .cmovge p _ x => (p, .rm x)
  | .cmovle p _ x => (p, .rm x)
  | .cmovg p _ x => (p, .rm x)
  | .punpcklbw p _ x => (p, .rm x)
  | .punpcklwd p _ x => (p, .rm x)
  | .punpckldq p _ x => (p, .rm x)
  | .packsswb p _ x => (p, .rm x)
  | .pcmpgtb p _ x => (p, .rm x)
  | .pcmpgtw p _ x => (p, .rm x)
  | .pcmpgtd p _ x => (p, .rm x)
  | .packuswb p _ x => (p, .rm x)
  | .punpckhbw p _ x => (p, .rm x)
  | .punpckhwd p _ x => (p, .rm x)
  | .punpckhdq p _ x => (p, .rm x)
  | .packssdw p _ x => (p, .rm x)
  | .movdLoad p _ x => (p, .rm x)
  | .movqLoad p _ x => (p, .rm x)
  | .psrlwImm p _ _ => (p, .imm)
  | .psrawImm p _ _ => (p, .imm)
  | .psllwImm p _ _ => (p, .imm)
  | .psrldImm p _ _ => (p, .imm)
  | .psradImm p _ _ => (p, .imm)
  | .pslldImm p _ _ => (p, .imm)
  | .psrlqImm p _ _ => (p, .imm)
  | .psllqImm p _ _ => (p, .imm)
  | .pcmpeqb p _ x => (p, .rm x)
  | .pcmpeqw p _ x => (p, .rm x)
  | .pcmpeqd p _ x => (p, .rm x)
  | .emms p => (p, .bare)
  | .movdStore p _ x => (p, .rm x)
  | .movqStore p _ x => (p, .rm x)
  | .cpuid p => (p, .bare)
  | .rsm p => (p, .bare)
  | .cmpxchg8b p x => (p, .rm x)
  | .psrlw p _ x => (p, .rm x)
  | .psrld p _ x => (p, .rm x)
  | .psrlq p _ x => (p, .rm x)
  | .pmullw p _ x => (p, .rm x)
  | .psubusb p _ x => (p, .rm x)
  | .psubusw p _ x => (p, .rm x)
  | .pand p _ x => (p, .rm x)
  | .paddusb p _ x => (p, .rm x)
  | .paddusw p _ x => (p, .rm x)
  | .pandn p _ x => (p, .rm x)
  | .psraw p _ x => (p, .rm x)
  | .psrad p _ x => (p, .rm x)
  | .pmulhw p _ x => (p, .rm x)
  | .psubsb p _ x => (p, .rm x)
  | .psubsw p _ x => (p, .rm x)
  | .por p _ x => (p, .rm x)
  | .paddsb p _ x => (p, .rm x)
  | .paddsw p _ x => (p, .rm x)
  | .pxor p _ x => (p, .rm x)
  | .psllw p _ x => (p, .rm x)
  | .pslld p _ x => (p, .rm x)
  | .psllq p _ x => (p, .rm x)
  | .pmaddwd p _ x => (p, .rm x)
  | .psubb p _ x => (p, .rm x)
  | .psubw p _ x => (p, .rm x)
  | .psubd p _ x => (p, .rm x)
  | .paddb p _ x => (p, .rm x)
  | .paddw p _ x => (p, .rm x)
  | .paddd p _ x => (p, .rm x)
  | .fcmovb p _ => (p, .stack)
  | .fcmove p _ => (p, .stack)
  | .fcmovbe p _ => (p, .stack)
  | .fcmovu p _ => (p, .stack)
  | .fcmovnb p _ => (p, .stack)
  | .fcmovne p _ => (p, .stack)
  | .fcmovnbe p _ => (p, .stack)
  | .fcmovnu p _ => (p, .stack)
  | .fucomi p _ => (p, .stack)
  | .fcomi p _ => (p, .stack)
  | .fucomip p _ => (p, .stack)
  | .fcomip p _ => (p, .stack)

/-- Bytes of a 16-bit form's displacement. -/
def Disp16.size : Disp16 → Nat
  | .none => 0
  | .d8 _ => 1
  | .d16 _ => 2

/-- Bytes of a 32-bit form's displacement. -/
def Disp32.size : Disp32 → Nat
  | .none => 0
  | .d8 _ => 1
  | .d32 _ => 4

/-- Bytes of SIB and displacement (30_encoding R140). -/
def Mem.size : Mem → Nat
  | .based16 _ disp => disp.size
  | .abs16 _ => 2
  | .based32 _ disp => disp.size
  | .abs32 _ => 4
  | .sib _ _ _ disp => 1 + disp.size
  | .sibNoBase _ _ _ => 5

/-- Bytes of ModR/M, SIB and displacement. -/
def Rm.size : Rm → Nat
  | .reg _ => 1
  | .mem m => 1 + m.size

/-- Bytes after the two opcode bytes `0F xx`, or after the escape byte of an FPU form less one. -/
def Body.size : Body → Nat
  | .bare => 0
  | .rm x => x.size
  | .imm => 2
  | .stack => 0

/-- The length of an instruction in bytes, with the bytes before the opcode (10_state R22). Every opcode of this spec
is two bytes: `0F xx`, or the escape byte and the second byte of an FPU form (30_encoding R140). -/
def Instr.length (i : Instr) : Nat :=
  i.parts.1.length + 2 + i.parts.2.size

/-- The address size a memory form has: true for the 32-bit forms. -/
def Mem.wide : Mem → Bool
  | .based16 _ _ => false
  | .abs16 _ => false
  | .based32 _ _ => true
  | .abs32 _ => true
  | .sib _ _ _ _ => true
  | .sibNoBase _ _ _ => true

/-- A memory form names one encoding: the rows that mean something else are excluded (30_encoding R150, R151, R153). -/
def Mem.canonical : Mem → Bool
  | .based16 rm disp => !(rm == 6 && disp == .none)
  | .abs16 _ => true
  | .based32 base disp => !(base == 4) && !(base == 5 && disp == .none)
  | .abs32 _ => true
  | .sib _ _ base disp => !(base == 5 && disp == .none)
  | .sibNoBase _ _ _ => true

/-- The address size of an instruction: the default of its code segment, which 67h turns round (30_encoding R147).
`big` is true in a 32-bit code segment. -/
def addrWide (big : Bool) (p : List Pfx) : Bool :=
  big != p.contains .addrSize

/-- The operand is one its address size can encode. -/
def Rm.wf (wide : Bool) : Rm → Bool
  | .reg _ => true
  | .mem m => m.wide == wide && m.canonical

/-- What follows the opcode is encodable at this address size. -/
def Body.wf (wide : Bool) : Body → Bool
  | .bare => true
  | .rm x => x.wf wide
  | .imm => true
  | .stack => true

/-- An instruction that some byte string of at most 15 bytes (30_encoding R140) encodes, in a code segment whose
default size is 32 bits when `big`. -/
def Instr.wf (big : Bool) (i : Instr) : Bool :=
  i.length ≤ 15 && i.parts.2.wf (addrWide big i.parts.1)

/-- The consistency 46 R354 asks of `CPUID_Features` and the other parameters, the feature rows of 00_scope R6, and the
MSR numbers a P5 accepts (92_eei section 2). -/
def Config.wf (c : Config) : Bool :=
  (c.features.getLsbD 23 == c.mmx)
    && (c.features.getLsbD 15 == (c.family == .p6 && c.cmov))
    && (c.features.getLsbD 6 == (c.family == .p6))
    && (c.features.getLsbD 13 == (c.family == .p6))
    && (c.features.getLsbD 4 && c.features.getLsbD 5 && c.features.getLsbD 8)
    && (c.features.getLsbD 1 && c.features.getLsbD 2 && c.features.getLsbD 3 && c.features.getLsbD 7)
    && (c.family == .p6 || [0x10, 0x11, 0x12, 0x13].all fun n => c.msrValid.contains n)

end Sys2Proof
end

