-- ==== Sys2Proof/Machine/Operands.lean ====
section
/-! DEFINITION. Effective addresses (30_encoding R150 to R153), segment overrides (30_encoding R160) and the operands of
the instructions. -/

namespace Sys2Proof.Machine

/-- A displacement of a 16-bit form, sign-extended to 16 bits (30_encoding R152). -/
def disp16Value : Disp16 → Word16
  | .none => 0
  | .d8 d => d.signExtend 16
  | .d16 d => d

/-- A displacement of a 32-bit form, sign-extended to 32 bits (30_encoding R152). -/
def disp32Value : Disp32 → Dword
  | .none => 0
  | .d8 d => d.signExtend 32
  | .d32 d => d

/-- The register part of a 16-bit form (30_encoding R153). -/
def State.base16 (s : State) (rm : RegNum) : Word16 :=
  match rm.toNat with
  | 0 => s.r16 rEBX + s.r16 rESI
  | 1 => s.r16 rEBX + s.r16 rEDI
  | 2 => s.r16 rEBP + s.r16 rESI
  | 3 => s.r16 rEBP + s.r16 rEDI
  | 4 => s.r16 rESI
  | 5 => s.r16 rEDI
  | 6 => s.r16 rEBP
  | _ => s.r16 rEBX

/-- The scaled index of a SIB byte; `index = 100` is no index (30_encoding R151). -/
def State.scaledIndex (s : State) (scale : BitVec 2) (index : RegNum) : Dword :=
  if index = 4 then 0 else s.r32 index <<< scale.toNat

/-- The effective address of a memory form (30_encoding R150, R151, R153); a 16-bit one is zero-extended. -/
def State.ea (s : State) : Mem → Dword
  | .based16 rm disp => (s.base16 rm + disp16Value disp).setWidth 32
  | .abs16 d => d.setWidth 32
  | .based32 base disp => s.r32 base + disp32Value disp
  | .abs32 d => d
  | .sib scale index base disp => s.r32 base + s.scaledIndex scale index + disp32Value disp
  | .sibNoBase scale index d => s.scaledIndex scale index + d

/-- The segment an address form uses by default (30_encoding R150, R151, R153). -/
def defaultSeg : Mem → SegName
  | .based16 rm _ => if rm = 2 ∨ rm = 3 ∨ rm = 6 then .ss else .ds
  | .abs16 _ => .ds
  | .based32 base _ => if base = 4 ∨ base = 5 then .ss else .ds
  | .abs32 _ => .ds
  | .sib _ _ base _ => if base = 4 ∨ base = 5 then .ss else .ds
  | .sibNoBase _ _ _ => .ds

/-- The segment an override byte names. -/
def segOf : Pfx → Option SegName
  | .seg g => some g
  | .opSize => none
  | .addrSize => none
  | .repne => none
  | .rep => none
  | .lock => none

/-- The segment of a memory operand: the last override, else the default (30_encoding R160, R163, log 51). -/
def operandSeg (p : List Pfx) (m : Mem) : SegName :=
  ((p.filterMap segOf).getLast?).getD (defaultSeg m)

/-- LOCK is present (30_encoding R162). -/
def locked (p : List Pfx) : Bool := p.contains .lock

/-- The operand size is 32 bits: the code segment's default, which 66h turns round (30_encoding R147). -/
def State.wideOperand (s : State) (p : List Pfx) : Bool := s.bigCode != p.contains .opSize

/-- The length of an instruction with one `r/m` operand (10_state R22). -/
def rmLength (p : List Pfx) (x : Rm) : Nat := p.length + 2 + x.size

/-- Read an `n`-byte memory operand as a `w`-bit value. -/
def State.readMem (s : State) (p : List Pfx) (m : Mem) (w n : Nat) : Res (BitVec w) :=
  (s.load (operandSeg p m) (s.ea m) n).bind fun bs s => .ok (leValue w bs) s

/-- Write an `n`-byte memory operand. -/
def State.writeMem {w : Nat} (s : State) (p : List Pfx) (m : Mem) (n : Nat) (v : BitVec w) : Res Unit :=
  s.store (operandSeg p m) (s.ea m) (leBytes n v)

/-- The source `mm/m64`, or `mm/m32` with `n = 4`, whose upper half is then 0 (00_scope R11, 20_memory R95). -/
def State.srcMm (s : State) (p : List Pfx) (x : Rm) (n : Nat) : Res Qword :=
  match x with
  | .reg r => .ok (s.mm r) s
  | .mem m => s.readMem p m 64 n

/-- The source `r/m32` (00_scope R11). -/
def State.src32 (s : State) (p : List Pfx) (x : Rm) : Res Dword :=
  match x with
  | .reg r => .ok (s.r32 r) s
  | .mem m => s.readMem p m 32 4

/-- The source `r/m16` (00_scope R11). -/
def State.src16 (s : State) (p : List Pfx) (x : Rm) : Res Word16 :=
  match x with
  | .reg r => .ok (s.r16 r) s
  | .mem m => s.readMem p m 16 2

/-- The destination `mm/m64` of MOVQ (45 R334). -/
def State.dstMm (s : State) (p : List Pfx) (x : Rm) (v : Qword) : Res Unit :=
  match x with
  | .reg r => .ok () (s.setMm r v)
  | .mem m => s.writeMem p m 8 v

/-- The destination `r/m32` of MOVD (45 R332). -/
def State.dst32 (s : State) (p : List Pfx) (x : Rm) (v : Dword) : Res Unit :=
  match x with
  | .reg r => .ok () (s.setR32 r v)
  | .mem m => s.writeMem p m 4 v

end Sys2Proof.Machine
end

