-- ==== Sys2Proof/Machine/Cmov.lean ====
section
/-! DEFINITION. CMOVcc (47 R380 to R396): sixteen instructions over one operation. -/

namespace Sys2Proof.Machine

/-- R380 steps 2 to 4: the source is read, and can fault, whether or not the condition holds (20_memory R97). -/
def cmovMove (cc : Nat) (p : List Pfx) (d : RegNum) (x : Rm) (s : State) : Res Unit :=
  if s.wideOperand p then
    (s.src32 p x).bind fun v t => .ok () (t.setR32 d (if condition t.eflags cc then v else t.r32 d))
  else
    (s.src16 p x).bind fun v t => .ok () (t.setR16 d (if condition t.eflags cc then v else t.r16 d))

/-- CMOVcc (47 R380): #UD without the feature (30_encoding R172) or with LOCK (30_encoding R162). -/
def cmov (cc : Nat) (p : List Pfx) (d : RegNum) (x : Rm) (s : State) : Host.Outcome State Fault Refusal :=
  Res.finish
    (if locked p || !hasCmov s.cfg then .exn .ud
    else (cmovMove cc p d x s).bind fun _ t => .ok () (t.advance (rmLength p x)))
    s

/-- CMOVO: condition 0h of 30_encoding R166 (47 R381). -/
def execCmovo (p : List Pfx) (d : RegNum) (x : Rm) (s : State) : Host.Outcome State Fault Refusal :=
  cmov 0 p d x s

/-- CMOVNO: condition 1h of 30_encoding R166 (47 R382). -/
def execCmovno (p : List Pfx) (d : RegNum) (x : Rm) (s : State) : Host.Outcome State Fault Refusal :=
  cmov 1 p d x s

/-- CMOVB: condition 2h of 30_encoding R166 (47 R383). -/
def execCmovb (p : List Pfx) (d : RegNum) (x : Rm) (s : State) : Host.Outcome State Fault Refusal :=
  cmov 2 p d x s

/-- CMOVAE: condition 3h of 30_encoding R166 (47 R384). -/
def execCmovae (p : List Pfx) (d : RegNum) (x : Rm) (s : State) : Host.Outcome State Fault Refusal :=
  cmov 3 p d x s

/-- CMOVE: condition 4h of 30_encoding R166 (47 R385). -/
def execCmove (p : List Pfx) (d : RegNum) (x : Rm) (s : State) : Host.Outcome State Fault Refusal :=
  cmov 4 p d x s

/-- CMOVNE: condition 5h of 30_encoding R166 (47 R386). -/
def execCmovne (p : List Pfx) (d : RegNum) (x : Rm) (s : State) : Host.Outcome State Fault Refusal :=
  cmov 5 p d x s

/-- CMOVBE: condition 6h of 30_encoding R166 (47 R387). -/
def execCmovbe (p : List Pfx) (d : RegNum) (x : Rm) (s : State) : Host.Outcome State Fault Refusal :=
  cmov 6 p d x s

/-- CMOVA: condition 7h of 30_encoding R166 (47 R388). -/
def execCmova (p : List Pfx) (d : RegNum) (x : Rm) (s : State) : Host.Outcome State Fault Refusal :=
  cmov 7 p d x s

/-- CMOVS: condition 8h of 30_encoding R166 (47 R389). -/
def execCmovs (p : List Pfx) (d : RegNum) (x : Rm) (s : State) : Host.Outcome State Fault Refusal :=
  cmov 8 p d x s

/-- CMOVNS: condition 9h of 30_encoding R166 (47 R390). -/
def execCmovns (p : List Pfx) (d : RegNum) (x : Rm) (s : State) : Host.Outcome State Fault Refusal :=
  cmov 9 p d x s

/-- CMOVP: condition Ah of 30_encoding R166 (47 R391). -/
def execCmovp (p : List Pfx) (d : RegNum) (x : Rm) (s : State) : Host.Outcome State Fault Refusal :=
  cmov 10 p d x s

/-- CMOVNP: condition Bh of 30_encoding R166 (47 R392). -/
def execCmovnp (p : List Pfx) (d : RegNum) (x : Rm) (s : State) : Host.Outcome State Fault Refusal :=
  cmov 11 p d x s

/-- CMOVL: condition Ch of 30_encoding R166 (47 R393). -/
def execCmovl (p : List Pfx) (d : RegNum) (x : Rm) (s : State) : Host.Outcome State Fault Refusal :=
  cmov 12 p d x s

/-- CMOVGE: condition Dh of 30_encoding R166 (47 R394). -/
def execCmovge (p : List Pfx) (d : RegNum) (x : Rm) (s : State) : Host.Outcome State Fault Refusal :=
  cmov 13 p d x s

/-- CMOVLE: condition Eh of 30_encoding R166 (47 R395). -/
def execCmovle (p : List Pfx) (d : RegNum) (x : Rm) (s : State) : Host.Outcome State Fault Refusal :=
  cmov 14 p d x s

/-- CMOVG: condition Fh of 30_encoding R166 (47 R396). -/
def execCmovg (p : List Pfx) (d : RegNum) (x : Rm) (s : State) : Host.Outcome State Fault Refusal :=
  cmov 15 p d x s

end Sys2Proof.Machine
end

