-- ==== Sys2Proof/Machine/Fpu.lean ====
section
/-! DEFINITION. FCMOVcc, FCOMI, FCOMIP, FUCOMI, FUCOMIP (47 R398 to R407, R421 to R428). -/

namespace Sys2Proof.Machine

/-! ## The 80-bit format (47 R407, log 37) -/

/-- Biased exponent, bits 78:64. -/
def exponent (v : FpuReg) : Nat := (v.extractLsb' 64 15).toNat

/-- Significand, bits 63:0, with the explicit integer bit 63. -/
def significand (v : FpuReg) : Nat := (v.extractLsb' 0 64).toNat

/-- Unsupported format: a nonzero exponent with the integer bit 0. -/
def unsupported (v : FpuReg) : Bool := exponent v != 0 && !v.getLsbD 63

/-- NaN: exponent 7FFFh, integer bit 1, fraction not 0. -/
def isNan (v : FpuReg) : Bool := exponent v == 0x7FFF && v.getLsbD 63 && significand v != 2 ^ 63

/-- Signalling NaN: a NaN with bit 62 clear. -/
def isSnan (v : FpuReg) : Bool := isNan v && !v.getLsbD 62

/-- A number whose order is that of the real values: exponents 0 and 1 have one scale, both zeros are 0, infinity is
above every finite value. -/
def realKey (v : FpuReg) : Int :=
  if significand v = 0 then 0
  else if v.getLsbD 79 then -((max (exponent v) 1 * 2 ^ 64 + significand v : Nat) : Int)
  else ((max (exponent v) 1 * 2 ^ 64 + significand v : Nat) : Int)

/-! ## What every instruction of this file checks -/

/-- A pending FPU exception: whether #MF comes first is the base FPU's (47 R399 (c), log 36), a free choice. -/
def State.pendingFirst (s : State) : Res Unit :=
  if s.fpuPending then (if s.free 1 = 1 then .exn .mf else .ok () s.drew) else .ok () s

/-- Steps 1 and 2 of 47 R398 and R402 around an operation that completes: #UD without the feature or with LOCK, #NM when
CR0.EM or CR0.TS is set. -/
def fpuFrame (p : List Pfx) (op : State → State) (s : State) : Host.Outcome State Fault Refusal :=
  Res.finish
    (if locked p || !hasCmov s.cfg then .exn .ud
    else if s.em || s.ts then .exn .nm
    else s.pendingFirst.bind fun _ t => .ok () ((op t).advance (p.length + 2)))
    s

/-- ST(0) or ST(i) is empty: stack underflow (47 R398 step 3, R402 step 3). -/
def State.underflow (s : State) (i : RegNum) : Bool := s.stEmpty 0 || s.stEmpty i

/-- The status word after #IS: IE and SF set, C1 = 0, pending when unmasked (47 R399, log 36). -/
def State.stackFaultWord (s : State) : Word16 :=
  let v := setBit (setBit (setBit s.fsw bitIE true) bitStackFault true) bitC1 false
  if s.invalidMasked then v else raisePending v

/-! ## FCMOVcc -/

/-- C0, C2 and C3 hold unspecified values (47 R399 (b)). -/
def State.freeCodes (s : State) : State :=
  let c := s.free 3
  { s with
    fsw := setBit (setBit (setBit s.fsw bitC0 (c.getLsbD 0)) bitC2 (c.getLsbD 1)) bitC3 (c.getLsbD 2)
    draws := s.draws + 1 }

/-- ST(0) and its tag after a masked #IS: what the base FPU writes is not in the source (47 R399 (a), log 36). -/
def State.freeTop (s : State) : State :=
  { (s.setSt 0 (s.free 80)) with
    ftw := withTag s.ftw s.tos (Config.freeBits 2 (s.draws + 1))
    draws := s.draws + 2 }

/-- ST(0) <- ST(i), all 80 bits, and its tag (47 R398). -/
def State.copyTop (s : State) (i : RegNum) : State :=
  { (s.setSt 0 (s.st i)) with ftw := withTag s.ftw s.tos (s.tag (s.stIndex i)) }

/-- 47 R398 steps 3 to 5. -/
def fcmovMove (cond : Bool) (i : RegNum) (s : State) : State :=
  if s.underflow i then
    let t := { s with fsw := s.stackFaultWord }
    (if s.invalidMasked then t.freeTop else t).freeCodes
  else (if cond then s.copyTop i else s).freeCodes

/-- FCMOVcc with condition `cc` of 30_encoding R166 (47 R398). -/
def fcmov (cc : Nat) (p : List Pfx) (i : RegNum) (s : State) : Host.Outcome State Fault Refusal :=
  fpuFrame p (fun t => fcmovMove (condition t.eflags cc) i t) s

/-! ## FCOMI, FCOMIP, FUCOMI, FUCOMIP -/

/-- Pop when the instruction pops. -/
def State.popIf (s : State) (pop : Bool) : State := if pop then s.popSt else s

/-- Stack underflow of a comparison: the flags and the pop are the base FPU's (47 R407, log 36), free values. -/
def compareUnderflow (pop : Bool) (s : State) : State :=
  let f := s.free 4
  let t := { s.drew with fsw := s.stackFaultWord }
  (t.setCompareFlags (f.getLsbD 0) (f.getLsbD 1) (f.getLsbD 2)).popIf (pop && f.getLsbD 3)

/-- #IA (47 R402 step 5): masked, the flags say unordered; unmasked, they stay and the exception becomes pending, and
whether a popping form pops is the base FPU's (log 36). -/
def compareInvalid (pop : Bool) (s : State) : State :=
  let w := setBit (setBit s.fsw bitIE true) bitC1 false
  if s.invalidMasked then (State.setCompareFlags { s with fsw := w } true true true).popIf pop
  else State.popIf { s.drew with fsw := raisePending w } (pop && (s.free 1).getLsbD 0)

/-- ZF, PF, CF <- z, p, c, C1 <- 0, and the pop (47 R402 steps 5 to 7). -/
def compareFlags (pop z p c : Bool) (s : State) : State :=
  (State.setCompareFlags { s with fsw := setBit s.fsw bitC1 false } z p c).popIf pop

/-- 47 R402 steps 3 to 7. `quiet` is FUCOMI and FUCOMIP: a quiet NaN raises nothing. -/
def compareTop (quiet pop : Bool) (i : RegNum) (s : State) : State :=
  if s.underflow i then compareUnderflow pop s
  else
    let a := s.st 0
    let b := s.st i
    if unsupported a || unsupported b || isSnan a || isSnan b then compareInvalid pop s
    else if isNan a || isNan b then
      if quiet then compareFlags pop true true true s else compareInvalid pop s
    else if realKey a > realKey b then compareFlags pop false false false s
    else if realKey a < realKey b then compareFlags pop false false true s
    else compareFlags pop true false false s

/-- FCMOVB: condition 2h of 30_encoding R166 (47 R421). -/
def execFcmovb (p : List Pfx) (i : RegNum) (s : State) : Host.Outcome State Fault Refusal :=
  fcmov 2 p i s

/-- FCMOVE: condition 4h of 30_encoding R166 (47 R422). -/
def execFcmove (p : List Pfx) (i : RegNum) (s : State) : Host.Outcome State Fault Refusal :=
  fcmov 4 p i s

/-- FCMOVBE: condition 6h of 30_encoding R166 (47 R423). -/
def execFcmovbe (p : List Pfx) (i : RegNum) (s : State) : Host.Outcome State Fault Refusal :=
  fcmov 6 p i s

/-- FCMOVU: condition Ah of 30_encoding R166 (47 R424). -/
def execFcmovu (p : List Pfx) (i : RegNum) (s : State) : Host.Outcome State Fault Refusal :=
  fcmov 10 p i s

/-- FCMOVNB: condition 3h of 30_encoding R166 (47 R425). -/
def execFcmovnb (p : List Pfx) (i : RegNum) (s : State) : Host.Outcome State Fault Refusal :=
  fcmov 3 p i s

/-- FCMOVNE: condition 5h of 30_encoding R166 (47 R426). -/
def execFcmovne (p : List Pfx) (i : RegNum) (s : State) : Host.Outcome State Fault Refusal :=
  fcmov 5 p i s

/-- FCMOVNBE: condition 7h of 30_encoding R166 (47 R427). -/
def execFcmovnbe (p : List Pfx) (i : RegNum) (s : State) : Host.Outcome State Fault Refusal :=
  fcmov 7 p i s

/-- FCMOVNU: condition Bh of 30_encoding R166 (47 R428). -/
def execFcmovnu (p : List Pfx) (i : RegNum) (s : State) : Host.Outcome State Fault Refusal :=
  fcmov 11 p i s

/-- FCOMI (47 R403). -/
def execFcomi (p : List Pfx) (i : RegNum) (s : State) : Host.Outcome State Fault Refusal :=
  fpuFrame p (compareTop false false i) s

/-- FCOMIP (47 R404). -/
def execFcomip (p : List Pfx) (i : RegNum) (s : State) : Host.Outcome State Fault Refusal :=
  fpuFrame p (compareTop false true i) s

/-- FUCOMI (47 R405). -/
def execFucomi (p : List Pfx) (i : RegNum) (s : State) : Host.Outcome State Fault Refusal :=
  fpuFrame p (compareTop true false i) s

/-- FUCOMIP (47 R406). -/
def execFucomip (p : List Pfx) (i : RegNum) (s : State) : Host.Outcome State Fault Refusal :=
  fpuFrame p (compareTop true true i) s

end Sys2Proof.Machine
end

