-- ==== Sys2Proof/Machine/Lanes.lean ====
section
/-! DEFINITION. Lanes of a 64-bit value (00_scope R15), saturation (00_scope R10), and the execution frame of the MMX
instructions (40 R200, 44 R300). -/

namespace Sys2Proof.Machine

/-! ## Lanes -/

/-- Byte lane `k` (00_scope R15). -/
def laneB (v : Qword) (k : Nat) : Byte := v.extractLsb' (8 * k) 8

/-- Word lane `k`. -/
def laneW (v : Qword) (k : Nat) : Word16 := v.extractLsb' (16 * k) 16

/-- Doubleword lane `k`. -/
def laneD (v : Qword) (k : Nat) : Dword := v.extractLsb' (32 * k) 32

/-- The value of eight byte lanes. -/
def packB (f : Nat → Byte) : Qword := f 7 ++ f 6 ++ f 5 ++ f 4 ++ f 3 ++ f 2 ++ f 1 ++ f 0

/-- The value of four word lanes. -/
def packW (f : Nat → Word16) : Qword := f 3 ++ f 2 ++ f 1 ++ f 0

/-- The value of two doubleword lanes. -/
def packD (f : Nat → Dword) : Qword := f 1 ++ f 0

/-- An operation on corresponding byte lanes. -/
def mapB (f : Byte → Byte → Byte) (a b : Qword) : Qword := packB fun k => f (laneB a k) (laneB b k)

/-- An operation on corresponding word lanes. -/
def mapW (f : Word16 → Word16 → Word16) (a b : Qword) : Qword := packW fun k => f (laneW a k) (laneW b k)

/-- An operation on corresponding doubleword lanes. -/
def mapD (f : Dword → Dword → Dword) (a b : Qword) : Qword := packD fun k => f (laneD a k) (laneD b k)

/-! ## Exact results narrowed -/

/-- `unsigned(v)` as an integer (00_scope R9). -/
def unsigned {w : Nat} (v : BitVec w) : Int := (v.toNat : Int)

/-- `trunc_N(i)` (00_scope R9). -/
def trunc (w : Nat) (i : Int) : BitVec w := BitVec.ofInt w i

/-- `SatS8`, `SatS16` of 00_scope R10: clamp to the signed range of `w` bits. -/
def satS (w : Nat) (i : Int) : BitVec w :=
  if i < -(2 ^ (w - 1)) then BitVec.ofInt w (-(2 ^ (w - 1)))
  else if i > 2 ^ (w - 1) - 1 then BitVec.ofInt w (2 ^ (w - 1) - 1)
  else trunc w i

/-- `SatU8`, `SatU16` of 00_scope R10: clamp to the unsigned range of `w` bits. -/
def satU (w : Nat) (i : Int) : BitVec w :=
  if i < 0 then 0 else if i > 2 ^ w - 1 then BitVec.ofInt w (2 ^ w - 1) else trunc w i

/-- Lane sums and differences: wraparound, signed and unsigned saturation (40 R201 to R218). -/
def addWrap {w : Nat} (a b : BitVec w) : BitVec w := trunc w (unsigned a + unsigned b)
def addSatS {w : Nat} (a b : BitVec w) : BitVec w := satS w (a.toInt + b.toInt)
def addSatU {w : Nat} (a b : BitVec w) : BitVec w := satU w (unsigned a + unsigned b)
def subWrap {w : Nat} (a b : BitVec w) : BitVec w := trunc w (unsigned a - unsigned b)
def subSatS {w : Nat} (a b : BitVec w) : BitVec w := satS w (a.toInt - b.toInt)
def subSatU {w : Nat} (a b : BitVec w) : BitVec w := satU w (unsigned a - unsigned b)

/-- The exact signed product of two words, in 32 bits (40 R221 to R223). -/
def mulSigned (a b : Word16) : Dword := trunc 32 (a.toInt * b.toInt)

/-- A comparison's mask (41 R240). -/
def mask (w : Nat) (b : Bool) : BitVec w := if b then BitVec.allOnes w else 0

/-! ## The execution frame -/

/-- Steps 1 to 4 of 40 R200, 44 R300 and 45 R330 to R334: LOCK, no MMX (30_encoding R172) or CR0.EM raise #UD, CR0.TS
#NM, a pending FPU exception #MF. -/
def State.mmxFault (s : State) (p : List Pfx) : Option Exn :=
  if locked p || !s.cfg.mmx || s.em then some .ud
  else if s.ts then some .nm
  else if s.fpuPending then some .mf
  else none

/-- An MMX instruction: the checks, then its operation, then the tag word, TOS and EIP (40 R200). -/
def mmxFrame (p : List Pfx) (tags : Word16) (len : Nat) (op : State → Res Unit) (s : State) :
    Host.Outcome State Fault Refusal :=
  Res.finish
    (match s.mmxFault p with
    | some e => .exn e
    | none => (op s).bind fun _ t => .ok () ((t.mmxDone tags).advance len))
    s

/-- `MM[d] <- f(MM[d], SRC)` with an `n`-byte memory source (40 R200 steps 5 to 7). -/
def combine (f : Qword → Qword → Qword) (n : Nat) (p : List Pfx) (d : RegNum) (x : Rm) (s : State) : Res Unit :=
  (s.srcMm p x n).bind fun v t => .ok () (t.setMm d (f (t.mm d) v))

/-- A two-operand MMX instruction `mm, mm/m64` (40 R200). -/
def mmxOp (f : Qword → Qword → Qword) (p : List Pfx) (d : RegNum) (x : Rm) (s : State) :
    Host.Outcome State Fault Refusal :=
  mmxFrame p 0 (rmLength p x) (combine f 8 p d x) s

/-- A two-operand MMX instruction `mm, mm/m32` (42 R277). -/
def mmxOp32 (f : Qword → Qword → Qword) (p : List Pfx) (d : RegNum) (x : Rm) (s : State) :
    Host.Outcome State Fault Refusal :=
  mmxFrame p 0 (rmLength p x) (combine f 4 p d x) s

/-- An MMX shift `mm, imm8`: the count is the byte read unsigned (44 R300, R304). -/
def mmxShiftImm (f : Qword → Nat → Qword) (p : List Pfx) (d : RegNum) (n : Byte) (s : State) :
    Host.Outcome State Fault Refusal :=
  mmxFrame p 0 (p.length + 4) (fun t => .ok () (t.setMm d (f (t.mm d) n.toNat))) s

/-- An MMX shift `mm, mm/m64`: the count is the whole quadword (44 R300, R304). -/
def mmxShift (f : Qword → Nat → Qword) (p : List Pfx) (d : RegNum) (x : Rm) (s : State) :
    Host.Outcome State Fault Refusal :=
  mmxOp (fun a b => f a b.toNat) p d x s

end Sys2Proof.Machine
end

