-- ==== Sys2Proof/Machine/MmxArith.lean ====
section
/-! DEFINITION. The MMX arithmetic instructions (40 R201 to R223). -/

namespace Sys2Proof.Machine

/-- Bits 31:16 of the signed product (40 R221). -/
def mulHigh (a b : Word16) : Word16 := (mulSigned a b).extractLsb' 16 16

/-- Bits 15:0 of the product (40 R222). -/
def mulLow (a b : Word16) : Word16 := (mulSigned a b).extractLsb' 0 16

/-- The sums of adjacent products, truncated to 32 bits (40 R223). -/
def mulAddPairs (a b : Qword) : Qword :=
  packD fun j => trunc 32 ((laneW a (2 * j)).toInt * (laneW b (2 * j)).toInt
    + (laneW a (2 * j + 1)).toInt * (laneW b (2 * j + 1)).toInt)

/-- PADDB: byte lanes, wraparound sum (40 R201). -/
def execPaddb (p : List Pfx) (d : RegNum) (x : Rm) (s : State) : Host.Outcome State Fault Refusal :=
  mmxOp (mapB addWrap) p d x s

/-- PADDW: word lanes, wraparound sum (40 R202). -/
def execPaddw (p : List Pfx) (d : RegNum) (x : Rm) (s : State) : Host.Outcome State Fault Refusal :=
  mmxOp (mapW addWrap) p d x s

/-- PADDD: doubleword lanes, wraparound sum (40 R203). -/
def execPaddd (p : List Pfx) (d : RegNum) (x : Rm) (s : State) : Host.Outcome State Fault Refusal :=
  mmxOp (mapD addWrap) p d x s

/-- PADDSB: byte lanes, signed saturating sum (40 R205). -/
def execPaddsb (p : List Pfx) (d : RegNum) (x : Rm) (s : State) : Host.Outcome State Fault Refusal :=
  mmxOp (mapB addSatS) p d x s

/-- PADDSW: word lanes, signed saturating sum (40 R206). -/
def execPaddsw (p : List Pfx) (d : RegNum) (x : Rm) (s : State) : Host.Outcome State Fault Refusal :=
  mmxOp (mapW addSatS) p d x s

/-- PADDUSB: byte lanes, unsigned saturating sum (40 R207). -/
def execPaddusb (p : List Pfx) (d : RegNum) (x : Rm) (s : State) : Host.Outcome State Fault Refusal :=
  mmxOp (mapB addSatU) p d x s

/-- PADDUSW: word lanes, unsigned saturating sum (40 R208). -/
def execPaddusw (p : List Pfx) (d : RegNum) (x : Rm) (s : State) : Host.Outcome State Fault Refusal :=
  mmxOp (mapW addSatU) p d x s

/-- PSUBB: byte lanes, destination minus source, wraparound (40 R211). -/
def execPsubb (p : List Pfx) (d : RegNum) (x : Rm) (s : State) : Host.Outcome State Fault Refusal :=
  mmxOp (mapB subWrap) p d x s

/-- PSUBW: word lanes, wraparound difference (40 R212). -/
def execPsubw (p : List Pfx) (d : RegNum) (x : Rm) (s : State) : Host.Outcome State Fault Refusal :=
  mmxOp (mapW subWrap) p d x s

/-- PSUBD: doubleword lanes, wraparound difference (40 R213). -/
def execPsubd (p : List Pfx) (d : RegNum) (x : Rm) (s : State) : Host.Outcome State Fault Refusal :=
  mmxOp (mapD subWrap) p d x s

/-- PSUBSB: byte lanes, signed saturating difference (40 R215). -/
def execPsubsb (p : List Pfx) (d : RegNum) (x : Rm) (s : State) : Host.Outcome State Fault Refusal :=
  mmxOp (mapB subSatS) p d x s

/-- PSUBSW: word lanes, signed saturating difference (40 R216). -/
def execPsubsw (p : List Pfx) (d : RegNum) (x : Rm) (s : State) : Host.Outcome State Fault Refusal :=
  mmxOp (mapW subSatS) p d x s

/-- PSUBUSB: byte lanes, unsigned saturating difference (40 R217). -/
def execPsubusb (p : List Pfx) (d : RegNum) (x : Rm) (s : State) : Host.Outcome State Fault Refusal :=
  mmxOp (mapB subSatU) p d x s

/-- PSUBUSW: word lanes, unsigned saturating difference (40 R218). -/
def execPsubusw (p : List Pfx) (d : RegNum) (x : Rm) (s : State) : Host.Outcome State Fault Refusal :=
  mmxOp (mapW subSatU) p d x s

/-- PMULHW: word lanes, bits 31:16 of the signed product (40 R221). -/
def execPmulhw (p : List Pfx) (d : RegNum) (x : Rm) (s : State) : Host.Outcome State Fault Refusal :=
  mmxOp (mapW mulHigh) p d x s

/-- PMULLW: word lanes, bits 15:0 of the product (40 R222). -/
def execPmullw (p : List Pfx) (d : RegNum) (x : Rm) (s : State) : Host.Outcome State Fault Refusal :=
  mmxOp (mapW mulLow) p d x s

/-- PMADDWD: signed products of word lanes added pairwise into doubleword lanes (40 R223). -/
def execPmaddwd (p : List Pfx) (d : RegNum) (x : Rm) (s : State) : Host.Outcome State Fault Refusal :=
  mmxOp (mulAddPairs) p d x s

end Sys2Proof.Machine
end

