-- ==== Sys2Proof/Machine/MmxCompare.lean ====
section
/-! DEFINITION. The MMX comparisons: a mask per lane, no flag (41 R240 to R247). -/

namespace Sys2Proof.Machine

/-- PCMPEQB: byte lanes equal (41 R241). -/
def execPcmpeqb (p : List Pfx) (d : RegNum) (x : Rm) (s : State) : Host.Outcome State Fault Refusal :=
  mmxOp (mapB fun a b => mask 8 (a == b)) p d x s

/-- PCMPEQW: word lanes equal (41 R242). -/
def execPcmpeqw (p : List Pfx) (d : RegNum) (x : Rm) (s : State) : Host.Outcome State Fault Refusal :=
  mmxOp (mapW fun a b => mask 16 (a == b)) p d x s

/-- PCMPEQD: doubleword lanes equal (41 R243). -/
def execPcmpeqd (p : List Pfx) (d : RegNum) (x : Rm) (s : State) : Host.Outcome State Fault Refusal :=
  mmxOp (mapD fun a b => mask 32 (a == b)) p d x s

/-- PCMPGTB: signed byte lanes, destination greater than source (41 R244, R245). -/
def execPcmpgtb (p : List Pfx) (d : RegNum) (x : Rm) (s : State) : Host.Outcome State Fault Refusal :=
  mmxOp (mapB fun a b => mask 8 (b.slt a)) p d x s

/-- PCMPGTW: signed word lanes, destination greater than source (41 R244, R246). -/
def execPcmpgtw (p : List Pfx) (d : RegNum) (x : Rm) (s : State) : Host.Outcome State Fault Refusal :=
  mmxOp (mapW fun a b => mask 16 (b.slt a)) p d x s

/-- PCMPGTD: signed doubleword lanes, destination greater than source (41 R244, R247). -/
def execPcmpgtd (p : List Pfx) (d : RegNum) (x : Rm) (s : State) : Host.Outcome State Fault Refusal :=
  mmxOp (mapD fun a b => mask 32 (b.slt a)) p d x s

end Sys2Proof.Machine
end

