-- ==== Sys2Proof/Machine/MmxConvert.lean ====
section
/-! DEFINITION. The MMX pack and unpack instructions (42 R261 to R277); every lane reads the old destination (42 R260). -/

namespace Sys2Proof.Machine

/-- Words of the destination into bytes 0 to 3, of the source into bytes 4 to 7 (42 R261, R263). -/
def packWords (sat : Int → Byte) (a b : Qword) : Qword :=
  packB fun k => sat (if k < 4 then laneW a k else laneW b (k - 4)).toInt

/-- Doublewords of the destination into words 0 and 1, of the source into words 2 and 3 (42 R262). -/
def packDwords (sat : Int → Word16) (a b : Qword) : Qword :=
  packW fun k => sat (if k < 2 then laneD a k else laneD b (k - 2)).toInt

/-- Bytes from lane `lo` up, destination first (42 R270, R277). -/
def interleaveB (lo : Nat) (a b : Qword) : Qword :=
  packB fun k => if k % 2 = 0 then laneB a (lo + k / 2) else laneB b (lo + k / 2)

/-- Words from lane `lo` up, destination first. -/
def interleaveW (lo : Nat) (a b : Qword) : Qword :=
  packW fun k => if k % 2 = 0 then laneW a (lo + k / 2) else laneW b (lo + k / 2)

/-- Doublewords of lane `lo`, destination first. -/
def interleaveD (lo : Nat) (a b : Qword) : Qword :=
  packD fun k => if k = 0 then laneD a lo else laneD b lo

/-- PACKSSWB: signed words to signed bytes, saturated (42 R261). -/
def execPacksswb (p : List Pfx) (d : RegNum) (x : Rm) (s : State) : Host.Outcome State Fault Refusal :=
  mmxOp (packWords (satS 8)) p d x s

/-- PACKSSDW: signed doublewords to signed words, saturated (42 R262). -/
def execPackssdw (p : List Pfx) (d : RegNum) (x : Rm) (s : State) : Host.Outcome State Fault Refusal :=
  mmxOp (packDwords (satS 16)) p d x s

/-- PACKUSWB: signed words to unsigned bytes, saturated (42 R263). -/
def execPackuswb (p : List Pfx) (d : RegNum) (x : Rm) (s : State) : Host.Outcome State Fault Refusal :=
  mmxOp (packWords (satU 8)) p d x s

/-- PUNPCKHBW: interleave the four high bytes (42 R271). -/
def execPunpckhbw (p : List Pfx) (d : RegNum) (x : Rm) (s : State) : Host.Outcome State Fault Refusal :=
  mmxOp (interleaveB 4) p d x s

/-- PUNPCKHWD: interleave the two high words (42 R272). -/
def execPunpckhwd (p : List Pfx) (d : RegNum) (x : Rm) (s : State) : Host.Outcome State Fault Refusal :=
  mmxOp (interleaveW 2) p d x s

/-- PUNPCKHDQ: the two high doublewords (42 R273). -/
def execPunpckhdq (p : List Pfx) (d : RegNum) (x : Rm) (s : State) : Host.Outcome State Fault Refusal :=
  mmxOp (interleaveD 1) p d x s

/-- PUNPCKLBW: interleave the four low bytes; the memory source is 4 bytes (42 R274, R277). -/
def execPunpcklbw (p : List Pfx) (d : RegNum) (x : Rm) (s : State) : Host.Outcome State Fault Refusal :=
  mmxOp32 (interleaveB 0) p d x s

/-- PUNPCKLWD: interleave the two low words (42 R275, R277). -/
def execPunpcklwd (p : List Pfx) (d : RegNum) (x : Rm) (s : State) : Host.Outcome State Fault Refusal :=
  mmxOp32 (interleaveW 0) p d x s

/-- PUNPCKLDQ: the two low doublewords (42 R276, R277). -/
def execPunpckldq (p : List Pfx) (d : RegNum) (x : Rm) (s : State) : Host.Outcome State Fault Refusal :=
  mmxOp32 (interleaveD 0) p d x s

end Sys2Proof.Machine
end

