-- ==== Sys2Proof/Machine/MmxLogic.lean ====
section
/-! DEFINITION. The MMX logical instructions on the whole quadword (43 R290 to R294). -/

namespace Sys2Proof.Machine

/-- PAND (43 R291). -/
def execPand (p : List Pfx) (d : RegNum) (x : Rm) (s : State) : Host.Outcome State Fault Refusal :=
  mmxOp (fun a b => a &&& b) p d x s

/-- PANDN: the complement of the destination AND the source (43 R292). -/
def execPandn (p : List Pfx) (d : RegNum) (x : Rm) (s : State) : Host.Outcome State Fault Refusal :=
  mmxOp (fun a b => ~~~a &&& b) p d x s

/-- POR (43 R293). -/
def execPor (p : List Pfx) (d : RegNum) (x : Rm) (s : State) : Host.Outcome State Fault Refusal :=
  mmxOp (fun a b => a ||| b) p d x s

/-- PXOR (43 R294). -/
def execPxor (p : List Pfx) (d : RegNum) (x : Rm) (s : State) : Host.Outcome State Fault Refusal :=
  mmxOp (fun a b => a ^^^ b) p d x s

end Sys2Proof.Machine
end

