-- ==== Sys2Proof/Machine/MmxMove.lean ====
section
/-! DEFINITION. MOVD, MOVQ and EMMS (45 R330 to R334). -/

namespace Sys2Proof.Machine

/-- EMMS: every tag empty, TOS = 000, no data register changes (45 R330). -/
def execEmms (p : List Pfx) (s : State) : Host.Outcome State Fault Refusal :=
  mmxFrame p 0xFFFF (p.length + 2) (fun t => .ok () t) s

/-- MOVD mm, r/m32: zero-extended into the whole register (45 R331). -/
def execMovdLoad (p : List Pfx) (d : RegNum) (x : Rm) (s : State) : Host.Outcome State Fault Refusal :=
  mmxFrame p 0 (rmLength p x) (fun t => (t.src32 p x).bind fun v t => .ok () (t.setMm d (v.setWidth 64))) s

/-- MOVD r/m32, mm: the low doubleword; the MMX register is only read (45 R332). -/
def execMovdStore (p : List Pfx) (d : RegNum) (x : Rm) (s : State) : Host.Outcome State Fault Refusal :=
  mmxFrame p 0 (rmLength p x) (fun t => t.dst32 p x ((t.mm d).extractLsb' 0 32)) s

/-- MOVQ mm, mm/m64 (45 R333). -/
def execMovqLoad (p : List Pfx) (d : RegNum) (x : Rm) (s : State) : Host.Outcome State Fault Refusal :=
  mmxOp (fun _ b => b) p d x s

/-- MOVQ mm/m64, mm (45 R334). -/
def execMovqStore (p : List Pfx) (d : RegNum) (x : Rm) (s : State) : Host.Outcome State Fault Refusal :=
  mmxFrame p 0 (rmLength p x) (fun t => t.dstMm p x (t.mm d)) s

end Sys2Proof.Machine
end

