-- ==== Sys2Proof/Machine/MmxShift.lean ====
section
/-! DEFINITION. The MMX shifts, by register or memory and by immediate (44 R300 to R322). -/

namespace Sys2Proof.Machine

/-- A lane shifted left: 0 when the count exceeds the width less one (44 R301 to R303). -/
def shlLane (w : Nat) (v : BitVec w) (c : Nat) : BitVec w :=
  if c > w - 1 then 0 else BitVec.ofNat w (v.toNat * 2 ^ c)

/-- A lane shifted right, zeros in (44 R311 to R313). -/
def shrLane (w : Nat) (v : BitVec w) (c : Nat) : BitVec w :=
  if c > w - 1 then 0 else BitVec.ofNat w (v.toNat / 2 ^ c)

/-- A lane shifted right, the sign in: the count is at most the width less one (44 R321, R322). -/
def sarLane (w : Nat) (v : BitVec w) (c : Nat) : BitVec w :=
  trunc w (v.toInt.fdiv (2 ^ min c (w - 1)))

/-- PSLL by lane size (44 R301 to R303). -/
def shlW (v : Qword) (c : Nat) : Qword := packW fun k => shlLane 16 (laneW v k) c
def shlD (v : Qword) (c : Nat) : Qword := packD fun k => shlLane 32 (laneD v k) c
def shlQ (v : Qword) (c : Nat) : Qword := shlLane 64 v c

/-- PSRL by lane size (44 R311 to R313). -/
def shrW (v : Qword) (c : Nat) : Qword := packW fun k => shrLane 16 (laneW v k) c
def shrD (v : Qword) (c : Nat) : Qword := packD fun k => shrLane 32 (laneD v k) c
def shrQ (v : Qword) (c : Nat) : Qword := shrLane 64 v c

/-- PSRA by lane size (44 R321, R322). -/
def sarW (v : Qword) (c : Nat) : Qword := packW fun k => sarLane 16 (laneW v k) c
def sarD (v : Qword) (c : Nat) : Qword := packD fun k => sarLane 32 (laneD v k) c

/-- PSLLW `mm, mm/m64` (44 R301). -/
def execPsllw (p : List Pfx) (d : RegNum) (x : Rm) (s : State) : Host.Outcome State Fault Refusal :=
  mmxShift shlW p d x s

/-- PSLLW `mm, imm8` (44 R301). -/
def execPsllwImm (p : List Pfx) (d : RegNum) (n : Byte) (s : State) : Host.Outcome State Fault Refusal :=
  mmxShiftImm shlW p d n s

/-- PSRLW `mm, mm/m64` (44 R311). -/
def execPsrlw (p : List Pfx) (d : RegNum) (x : Rm) (s : State) : Host.Outcome State Fault Refusal :=
  mmxShift shrW p d x s

/-- PSRLW `mm, imm8` (44 R311). -/
def execPsrlwImm (p : List Pfx) (d : RegNum) (n : Byte) (s : State) : Host.Outcome State Fault Refusal :=
  mmxShiftImm shrW p d n s

/-- PSRAW `mm, mm/m64` (44 R321). -/
def execPsraw (p : List Pfx) (d : RegNum) (x : Rm) (s : State) : Host.Outcome State Fault Refusal :=
  mmxShift sarW p d x s

/-- PSRAW `mm, imm8` (44 R321). -/
def execPsrawImm (p : List Pfx) (d : RegNum) (n : Byte) (s : State) : Host.Outcome State Fault Refusal :=
  mmxShiftImm sarW p d n s

/-- PSLLD `mm, mm/m64` (44 R302). -/
def execPslld (p : List Pfx) (d : RegNum) (x : Rm) (s : State) : Host.Outcome State Fault Refusal :=
  mmxShift shlD p d x s

/-- PSLLD `mm, imm8` (44 R302). -/
def execPslldImm (p : List Pfx) (d : RegNum) (n : Byte) (s : State) : Host.Outcome State Fault Refusal :=
  mmxShiftImm shlD p d n s

/-- PSRLD `mm, mm/m64` (44 R312). -/
def execPsrld (p : List Pfx) (d : RegNum) (x : Rm) (s : State) : Host.Outcome State Fault Refusal :=
  mmxShift shrD p d x s

/-- PSRLD `mm, imm8` (44 R312). -/
def execPsrldImm (p : List Pfx) (d : RegNum) (n : Byte) (s : State) : Host.Outcome State Fault Refusal :=
  mmxShiftImm shrD p d n s

/-- PSRAD `mm, mm/m64` (44 R322). -/
def execPsrad (p : List Pfx) (d : RegNum) (x : Rm) (s : State) : Host.Outcome State Fault Refusal :=
  mmxShift sarD p d x s

/-- PSRAD `mm, imm8` (44 R322). -/
def execPsradImm (p : List Pfx) (d : RegNum) (n : Byte) (s : State) : Host.Outcome State Fault Refusal :=
  mmxShiftImm sarD p d n s

/-- PSLLQ `mm, mm/m64` (44 R303). -/
def execPsllq (p : List Pfx) (d : RegNum) (x : Rm) (s : State) : Host.Outcome State Fault Refusal :=
  mmxShift shlQ p d x s

/-- PSLLQ `mm, imm8` (44 R303). -/
def execPsllqImm (p : List Pfx) (d : RegNum) (n : Byte) (s : State) : Host.Outcome State Fault Refusal :=
  mmxShiftImm shlQ p d n s

/-- PSRLQ `mm, mm/m64` (44 R313). -/
def execPsrlq (p : List Pfx) (d : RegNum) (x : Rm) (s : State) : Host.Outcome State Fault Refusal :=
  mmxShift shrQ p d x s

/-- PSRLQ `mm, imm8` (44 R313). -/
def execPsrlqImm (p : List Pfx) (d : RegNum) (n : Byte) (s : State) : Host.Outcome State Fault Refusal :=
  mmxShiftImm shrQ p d n s

end Sys2Proof.Machine
end

