-- ==== Sys2Proof/Machine/P5.lean ====
section
/-! DEFINITION. CMPXCHG8B, CPUID, RDTSC, RDMSR, WRMSR (46 R350 to R363), RDPMC (47 R410) and UD2 (47 R412). -/

namespace Sys2Proof.Machine

/-- An instruction without operands: #UD with LOCK (30_encoding R162), else its operation, then EIP moves past it. -/
def plainFrame (p : List Pfx) (op : State → Res Unit) (s : State) : Host.Outcome State Fault Refusal :=
  Res.finish
    (if locked p then .exn .ud else (op s).bind fun _ t => .ok () (t.advance (p.length + 2)))
    s

/-! ## CMPXCHG8B -/

/-- 46 R350 steps 2 to 5: the destination is checked for a write of 8 bytes whether or not the comparison succeeds
(92_eei D14). -/
def compareExchange (p : List Pfx) (m : Mem) (s : State) : Res Unit :=
  (s.operandAddrs (operandSeg p m) (s.ea m) 8 true).bind fun as s =>
    (s.readPhys as).bind fun bs s =>
      if s.edxEax = leValue 64 bs then (s.setFlag bitZF true).writePhys (as.zip (leBytes 8 s.ecxEbx))
      else .ok () ((s.setFlag bitZF false).setEdxEax (leValue 64 bs))

/-- CMPXCHG8B m64 (46 R350); LOCK is legal (46 R351) and changes nothing a single agent sees (log 41). -/
def execCmpxchg8b (p : List Pfx) (x : Rm) (s : State) : Host.Outcome State Fault Refusal :=
  Res.finish
    (match x with
    | .reg _ => .exn .ud
    | .mem m => (compareExchange p m s).bind fun _ t => .ok () (t.advance (rmLength p x)))
    s

/-! ## CPUID -/

/-- A register receives an arbitrary value (46 R356). -/
def State.setFree32 (s : State) (n : RegNum) : State := (s.setR32 n (s.free 32)).drew

/-- The four registers CPUID writes. -/
def State.setCpuid (s : State) (a b c d : Dword) : State :=
  (((s.setR32 rEAX a).setR32 rEBX b).setR32 rECX c).setR32 rEDX d

/-- Leaf 1 (46 R353, R354, R356): EAX[31:14], EBX and ECX are arbitrary. -/
def cpuidLeaf1 (s : State) : State :=
  let top := (s.free 18 : BitVec 18)
  (((s.drew.setR32 rEAX (top ++ s.cfg.signature.extractLsb' 0 14)).setFree32 rEBX).setFree32 rECX).setR32 rEDX
    s.cfg.features

/-- CPUID by leaf, the whole of EAX (46 R352). -/
def cpuidLeaf (s : State) : State :=
  let n := (s.r32 rEAX).toNat
  if n = 0 then s.setCpuid (BitVec.ofNat 32 (maxLeaf s.cfg)) 0x756E6547 0x6C65746E 0x49656E69
  else if n = 1 then cpuidLeaf1 s
  else if n = 2 ∧ maxLeaf s.cfg ≥ 2 then s.setCpuid s.cfg.leaf2a s.cfg.leaf2b s.cfg.leaf2c s.cfg.leaf2d
  else (((s.setFree32 rEAX).setFree32 rEBX).setFree32 rECX).setFree32 rEDX

/-- CPUID (46 R352). -/
def execCpuid (p : List Pfx) (s : State) : Host.Outcome State Fault Refusal :=
  plainFrame p (fun t => .ok () (cpuidLeaf t)) s

/-! ## RDTSC, RDMSR, WRMSR, RDPMC -/

/-- RDTSC (46 R358): #GP(0) when CR4.TSD = 1 outside CPL 0. -/
def execRdtsc (p : List Pfx) (s : State) : Host.Outcome State Fault Refusal :=
  plainFrame p (fun t => if t.tsd && t.cplNow != 0 then .exn .gp else .ok () (t.setEdxEax t.tsc)) s

/-- The MSR access checks (46 R360, R362 steps 1 to 3): CPL 0, never in virtual-8086 mode, a number `MSR_Valid` admits. -/
def State.msrDenied (s : State) : Bool :=
  s.mode == .v86 || s.cplNow != 0 || !s.cfg.msrValid.contains (s.r32 rECX).toNat

/-- The MSR named by ECX (10_state R43 to R46); unimplemented bits of a counter read as 0, of CESR as unspecified values
(log 33). -/
def readMsr (s : State) : Res Qword :=
  match (s.r32 rECX).toNat with
  | 0x10 => .ok s.tsc s
  | 0x11 => .ok ((s.free 32 : Dword) ++ s.cesr) s.drew
  | 0x12 => .ok (s.ctr0.setWidth 64) s
  | 0x13 => .ok (s.ctr1.setWidth 64) s
  | _ => .stop (.refused (.msrNotDescribed (s.r32 rECX)))

/-- RDMSR (46 R360). -/
def execRdmsr (p : List Pfx) (s : State) : Host.Outcome State Fault Refusal :=
  plainFrame p (fun t =>
    if t.msrDenied then .exn .gp else (readMsr t).bind fun v t => .ok () (t.setEdxEax v)) s

/-- The bits of CESR that hold a field: ES0 5:0, CC0 8:6, PC0 9, ES1 21:16, CC1 24:22, PC1 25 (10_state R46). -/
def cesrMask : Qword := 0x0000000003FF03FF

/-- Write the MSR named by ECX (46 R362 steps 4 and 5, R363): a reserved bit of CESR raises #GP(0), bits 63:40 of a
counter are discarded. -/
def writeMsr (s : State) (v : Qword) : Res Unit :=
  match (s.r32 rECX).toNat with
  | 0x10 => .ok () { s with tsc := v }
  | 0x11 => if v &&& ~~~ cesrMask = 0 then .ok () { s with cesr := v.setWidth 32 } else .exn .gp
  | 0x12 => .ok () { s with ctr0 := v.setWidth 40 }
  | 0x13 => .ok () { s with ctr1 := v.setWidth 40 }
  | _ => .stop (.refused (.msrNotDescribed (s.r32 rECX)))

/-- WRMSR (46 R362). -/
def execWrmsr (p : List Pfx) (s : State) : Host.Outcome State Fault Refusal :=
  plainFrame p (fun t => if t.msrDenied then .exn .gp else writeMsr t t.edxEax) s

/-- RDPMC (47 R410): #UD without the feature, #GP(0) for another counter or outside CPL 0 with CR4.PCE = 0; the counters
are CTR0 and CTR1 (10_state R45, log 35). -/
def execRdpmc (p : List Pfx) (s : State) : Host.Outcome State Fault Refusal :=
  plainFrame p (fun t =>
    if !t.cfg.rdpmc then .exn .ud
    else if (t.r32 rECX).toNat > 1 then .exn .gp
    else if !t.pce && t.cplNow != 0 then .exn .gp
    else .ok () (t.setEdxEax (if t.r32 rECX = 0 then t.ctr0.setWidth 64 else t.ctr1.setWidth 64))) s

/-- UD2 (47 R412): #UD, and nothing else. -/
def execUd2 (p : List Pfx) (s : State) : Host.Outcome State Fault Refusal :=
  plainFrame p (fun _ => .exn .ud) s

end Sys2Proof.Machine
end

