-- ==== Sys2Proof/Machine/Smm.lean ====
section
/-! DEFINITION. System management mode (60 R560 to R572): the state save area, SMM entry, and RSM (46 R364, R366). -/

namespace Sys2Proof.Machine

/-! ## The state save area -/

/-- The physical addresses of the 512 bytes SMBASE+FE00h to SMBASE+FFFFh (60 R560), modulo 2^32 for an SMBASE near 4 GB
(DESIGN CHOICE, log 61: 60 R572 puts no restriction on the SMBASE of a P6 and does not say where the area then lies). -/
def areaAddrs (smbase : Dword) : List Nat :=
  (List.range 512).map fun k => (smbase + 0xFE00 + BitVec.ofNat 32 k).toNat

/-- `n` bytes of reserved content from byte `k` of the area on: unspecified values (93 U15). -/
def reservedBytes (fr : BitVec 4096) (k n : Nat) : List Byte :=
  (List.range n).map fun j => fr.extractLsb' (8 * (k + j)) 8

/-- A starred slot: 16 bits and a reserved upper word (60 R560). -/
def starSlot (fr : BitVec 4096) (k : Nat) (v : Word16) : List Byte := leBytes 2 v ++ reservedBytes fr (k + 2) 2

/-- The auto HALT restart word: bit 0 is the flag, the rest unspecified (60 R561 step 3, R567). -/
def haltWord (fr : BitVec 4096) (halted : Bool) : Word16 :=
  (fr.extractLsb' (8 * 0x102 + 1) 15 : BitVec 15) ++ BitVec.ofBool halted

/-- The area as stored, from offset 7E00h of S = SMBASE + 8000h up (60 R560, R561 steps 2 to 5). The SMBASE field is stored
with and without relocation support (DESIGN CHOICE, log 57: R561 does not say whether it is without). -/
def areaBytes (s : State) (fr : BitVec 4096) : List Byte :=
  reservedBytes fr 0 0xF8
    ++ leBytes 4 s.smbase
    ++ leBytes 4 s.cfg.smmRevision
    ++ [0, 0]
    ++ leBytes 2 (haltWord fr s.halted)
    ++ reservedBytes fr 0x104 0x84
    ++ leBytes 4 s.gdtr.base
    ++ reservedBytes fr 0x18C 8
    ++ leBytes 4 s.idtr.base
    ++ reservedBytes fr 0x198 0x10
    ++ starSlot fr 0x1A8 s.segs.es.sel
    ++ starSlot fr 0x1AC s.segs.cs.sel
    ++ starSlot fr 0x1B0 s.segs.ss.sel
    ++ starSlot fr 0x1B4 s.segs.ds.sel
    ++ starSlot fr 0x1B8 s.segs.fs.sel
    ++ starSlot fr 0x1BC s.segs.gs.sel
    ++ starSlot fr 0x1C0 (s.ldtr.base.extractLsb' 0 16)
    ++ starSlot fr 0x1C4 s.tr.sel
    ++ leBytes 4 s.dr.dr7
    ++ leBytes 4 s.dr.dr6
    ++ s.gpr.toList.flatMap (leBytes 4)
    ++ leBytes 4 s.eip
    ++ leBytes 4 s.eflags
    ++ leBytes 4 s.cr3
    ++ leBytes 4 s.cr0

/-- The doubleword at byte `k` of the area. -/
def slot32 (bs : List Byte) (k : Nat) : Dword := leValue 32 ((bs.drop k).take 4)

/-- The word at byte `k` of the area. -/
def slot16 (bs : List Byte) (k : Nat) : Word16 := leValue 16 ((bs.drop k).take 2)

/-- The bytes the handler may change: SMBASE, the two restart words, the general registers, EIP and EFLAGS (60 R560). -/
def handlerMayWrite (k : Nat) : Bool :=
  (0xF8 ≤ k && k < 0xFC) || (0x100 ≤ k && k < 0x104) || (0x1D0 ≤ k && k < 0x1F8)

/-- No byte but those differs between the area as stored and as RSM finds it (93 U15). -/
def areaKept (stored found : List Byte) : Bool :=
  stored.length == found.length && (stored.zip found).zipIdx.all fun c => handlerMayWrite c.2 || c.1.1 == c.1.2

/-! ## SMM entry -/

/-- A data segment in SMM: selector 0, base 0, limit 4 GB (60 R563). -/
def Seg.inSmm (g : Seg) : Seg := { g with sel := 0, base := 0, limit := 0xFFFFFFFF }

/-- CS in SMM: selector SMBASE >> 4, base SMBASE, limit 4 GB (60 R563). For an SMBASE of 1 MB or more, where R563 calls
the selector not meaningful, it is the low 16 bits of SMBASE >> 4 (DESIGN CHOICE, log 65). -/
def Seg.smmCode (g : Seg) (smbase : Dword) : Seg :=
  { g with sel := (smbase >>> 4).extractLsb' 0 16, base := smbase, limit := 0xFFFFFFFF }

/-- CR0 in SMM: PE, EM, TS and PG are 0, the rest stays (60 R563). -/
def smmCr0 (v : Dword) : Dword := setBit (setBit (setBit (setBit v 0 false) 2 false) 3 false) 31 false

/-- What SMM entry keeps where software cannot read it (60 R560). -/
def State.smmSaved (s : State) (area : List Byte) : SmmImage where
  cr4 := s.cr4
  segs := s.segs
  cpl := s.cpl
  ldtr := s.ldtr
  tr := s.tr
  gdtr := s.gdtr
  idtr := s.idtr
  area := area

/-- The registers after SMM entry (60 R561 steps 3, 6, 7, R563): general registers and DR6 hold arbitrary values. A single
step that was pending is dropped: "only SMI is handled" (60 R512, log 62). -/
def State.smmRegs (s : State) (halted : Bool) (image : SmmImage) : State :=
  let n := s.draws
  { s with
    gpr := #v[Config.freeBits 32 n, Config.freeBits 32 (n + 1), Config.freeBits 32 (n + 2), Config.freeBits 32 (n + 3),
      Config.freeBits 32 (n + 4), Config.freeBits 32 (n + 5), Config.freeBits 32 (n + 6), Config.freeBits 32 (n + 7)]
    eflags := 0x00000002
    eip := 0x00008000
    segs := ⟨s.segs.es.inSmm, s.segs.cs.smmCode s.smbase, s.segs.ss.inSmm, s.segs.ds.inSmm, s.segs.fs.inSmm,
      s.segs.gs.inSmm⟩
    cr0 := smmCr0 s.cr0
    dr := { s.dr with dr6 := Config.freeBits 32 (n + 8), dr7 := 0x00000400 }
    nmiBlocked := true
    a20mBlocked := true
    smiLatched := false
    stepTrap := false
    halted := false
    haltedAtSmi := halted
    smmImage := image
    draws := n + 9 }

/-- SMM entry (60 R561): the context goes to the save area in SMRAM, then the registers of R563. -/
def smiEntry (s : State) : Res Unit :=
  let area := areaBytes s (s.free 4096)
  (State.writePhys { s.drew with inSmm := true } ((areaAddrs s.smbase).zip area)).bind fun _ t =>
    .ok () (t.smmRegs s.halted (s.smmSaved area))

/-! ## RSM -/

/-- FREE VALUE (log 14): the registers in the shutdown state RSM enters (60 R570). -/
opaque shutdownFree (s : State) : Entry

/-- Shutdown (46 R366, 60 R570): the registers RSM loads hold unspecified values. -/
def State.rsmShutdown (s : State) : State :=
  let e := shutdownFree s
  { s with
    shutdown := true
    stepTrap := false
    gpr := e.gpr
    eip := e.eip
    eflags := sanitizeEflags e.eflags
    segs := e.segs
    cpl := e.cpl
    ldtr := e.ldtr
    tr := e.tr
    gdtr := ⟨s.free 32, s.free 16⟩
    idtr := ⟨Config.freeBits 32 (s.draws + 1), Config.freeBits 16 (s.draws + 1)⟩
    cr0 := Config.freeBits 32 (s.draws + 2)
    cr3 := e.cr3
    cr4 := Config.freeBits 32 (s.draws + 3) &&& ~~~ cr4Reserved s.cfg
    dr := { s.dr with dr6 := Config.freeBits 32 (s.draws + 4), dr7 := e.dr7 }
    draws := s.draws + 5 }

/-- SMBASE as RSM takes it (46 R364 step 4). -/
def State.newSmbase (s : State) (bs : List Byte) : Dword :=
  if hasRelocation s.cfg then slot32 bs 0xF8 else s.smbase

/-- The shutdown conditions (46 R364 step 5, R366): a reserved bit in the CR4 image, an illegal CR0 image, on P5 an
SMBASE that is no multiple of 32 KB. -/
def State.rsmBad (s : State) (bs : List Byte) : Bool :=
  s.smmImage.cr4 &&& cr4Reserved s.cfg != 0
    || cr0Illegal (slot32 bs 0x1FC)
    || (smbaseAlignCheck s.cfg && (s.newSmbase bs).toNat % 0x8000 != 0)

/-- EIP by the I/O restart field (60 R569): 0000h goes on, 00FFh goes back to the interrupted I/O instruction; none for
what the spec gives no effect (93 U17, U22). -/
def State.resumeEip (s : State) (bs : List Byte) : Option Dword :=
  if slot16 bs 0x100 = 0 then some (slot32 bs 0x1F0)
  else if slot16 bs 0x100 = 0x00FF ∧ hasIoRestart s.cfg then s.ioRestartEip
  else none

/-- Halted by bit 0 of the auto HALT restart word (60 R567), whatever the handler wrote to its other bits; none where it
set the flag of a processor that was not halted, which is unpredictable (60 R567, 93 U17). -/
def State.resumeHalted (s : State) (bs : List Byte) : Option Bool :=
  let restart := (slot16 bs 0x102).getLsbD 0
  if restart && !s.haltedAtSmi then none else some restart

/-- The eight general registers of the area. -/
def gprSlots (bs : List Byte) : Vector Dword 8 :=
  #v[slot32 bs 0x1D0, slot32 bs 0x1D4, slot32 bs 0x1D8, slot32 bs 0x1DC, slot32 bs 0x1E0, slot32 bs 0x1E4,
    slot32 bs 0x1E8, slot32 bs 0x1EC]

/-- The state RSM resumes (46 R364 steps 6 to 8): the readable slots from the area, the rest from the hidden image. -/
def State.rsmRestore (s : State) (bs : List Byte) (eip : Dword) (halted : Bool) : State :=
  { s with
    gpr := gprSlots bs
    eip := eip
    eflags := sanitizeEflags (slot32 bs 0x1F4)
    segs := s.smmImage.segs
    cpl := s.smmImage.cpl
    ldtr := s.smmImage.ldtr
    tr := s.smmImage.tr
    gdtr := s.smmImage.gdtr
    idtr := s.smmImage.idtr
    cr0 := slot32 bs 0x1FC
    cr3 := slot32 bs 0x1F8
    cr4 := s.smmImage.cr4
    dr := { s.dr with dr6 := slot32 bs 0x1CC, dr7 := slot32 bs 0x1C8 }
    smbase := s.newSmbase bs
    inSmm := false
    nmiBlocked := false
    a20mBlocked := false
    halted := halted
    haltedAtSmi := false
    ioRestartEip := none }

/-- SMBASE changed without relocation support (93 U22). -/
def State.smbaseRefused (s : State) (bs : List Byte) : Bool :=
  !hasRelocation s.cfg && slot32 bs 0xF8 != slot32 s.smmImage.area 0xF8

/-- RSM with the area's bytes (46 R364 steps 4 to 8). -/
def rsmWith (bs : List Byte) (s : State) : Res Unit :=
  if s.rsmBad bs then .ok () s.rsmShutdown
  else if !areaKept s.smmImage.area bs || s.smbaseRefused bs then .stop (.refused .saveAreaModified)
  else
    match s.resumeHalted bs, s.resumeEip bs with
    | some h, some a => .ok () (s.rsmRestore bs a h)
    | none, _ => .stop (.refused .haltRestart)
    | some _, none => .stop (.refused .ioRestart)

/-- RSM (46 R364): #UD outside SMM and with LOCK (30_encoding R162). A handler that turned paging on changes nothing: the
area is read at its physical addresses all the same (DESIGN CHOICE, log 66: R364 does not describe that case). -/
def execRsm (p : List Pfx) (s : State) : Host.Outcome State Fault Refusal :=
  Res.finish
    (if p.contains .lock then .exn .ud
    else if !s.inSmm then .exn .ud
    else (s.readPhys (areaAddrs s.smbase)).bind fun bs s => rsmWith bs s)
    s

end Sys2Proof.Machine
end

