-- ==== Sys2Proof/Machine/Dispatch.lean ====
section
/-! DEFINITION. The meaning of every instruction, one arm a constructor. -/

namespace Sys2Proof.Machine

/-- What an instruction does (each arm names its meaning). -/
def exec (i : Instr) (s : State) : Host.Outcome State Fault Refusal :=
  match i with
  | .ud2 p => Sys2Proof.Machine.execUd2 p s
  | .wrmsr p => Sys2Proof.Machine.execWrmsr p s
  | .rdtsc p => Sys2Proof.Machine.execRdtsc p s
  | .rdmsr p => Sys2Proof.Machine.execRdmsr p s
  | .rdpmc p => Sys2Proof.Machine.execRdpmc p s
  | .cmovo p d x => Sys2Proof.Machine.execCmovo p d x s
  | .cmovno p d x => Sys2Proof.Machine.execCmovno p d x s
  | .cmovb p d x => Sys2Proof.Machine.execCmovb p d x s
  | .cmovae p d x => Sys2Proof.Machine.execCmovae p d x s
  | .cmove p d x => Sys2Proof.Machine.execCmove p d x s
  | .cmovne p d x => Sys2Proof.Machine.execCmovne p d x s
  | .cmovbe p d x => Sys2Proof.Machine.execCmovbe p d x s
  | .cmova p d x => Sys2Proof.Machine.execCmova p d x s
  | .cmovs p d x => Sys2Proof.Machine.execCmovs p d x s
  | .cmovns p d x => Sys2Proof.Machine.execCmovns p d x s
  | .cmovp p d x => Sys2Proof.Machine.execCmovp p d x s
  | .cmovnp p d x => Sys2Proof.Machine.execCmovnp p d x s
  | .cmovl p d x => Sys2Proof.Machine.execCmovl p d x s
  | .cmovge p d x => Sys2Proof.Machine.execCmovge p d x s
  | .cmovle p d x => Sys2Proof.Machine.execCmovle p d x s
  | .cmovg p d x => Sys2Proof.Machine.execCmovg p d x s
  | .punpcklbw p d x => Sys2Proof.Machine.execPunpcklbw p d x s
  | .punpcklwd p d x => Sys2Proof.Machine.execPunpcklwd p d x s
  | .punpckldq p d x => Sys2Proof.Machine.execPunpckldq p d x s
  | .packsswb p d x => Sys2Proof.Machine.execPacksswb p d x s
  | .pcmpgtb p d x => Sys2Proof.Machine.execPcmpgtb p d x s
  | .pcmpgtw p d x => Sys2Proof.Machine.execPcmpgtw p d x s
  | .pcmpgtd p d x => Sys2Proof.Machine.execPcmpgtd p d x s
  | .packuswb p d x => Sys2Proof.Machine.execPackuswb p d x s
  | .punpckhbw p d x => Sys2Proof.Machine.execPunpckhbw p d x s
  | .punpckhwd p d x => Sys2Proof.Machine.execPunpckhwd p d x s
  | .punpckhdq p d x => Sys2Proof.Machine.execPunpckhdq p d x s
  | .packssdw p d x => Sys2Proof.Machine.execPackssdw p d x s
  | .movdLoad p d x => Sys2Proof.Machine.execMovdLoad p d x s
  | .movqLoad p d x => Sys2Proof.Machine.execMovqLoad p d x s
  | .psrlwImm p d n => Sys2Proof.Machine.execPsrlwImm p d n s
  | .psrawImm p d n => Sys2Proof.Machine.execPsrawImm p d n s
  | .psllwImm p d n => Sys2Proof.Machine.execPsllwImm p d n s
  | .psrldImm p d n => Sys2Proof.Machine.execPsrldImm p d n s
  | .psradImm p d n => Sys2Proof.Machine.execPsradImm p d n s
  | .pslldImm p d n => Sys2Proof.Machine.execPslldImm p d n s
  | .psrlqImm p d n => Sys2Proof.Machine.execPsrlqImm p d n s
  | .psllqImm p d n => Sys2Proof.Machine.execPsllqImm p d n s
  | .pcmpeqb p d x => Sys2Proof.Machine.execPcmpeqb p d x s
  | .pcmpeqw p d x => Sys2Proof.Machine.execPcmpeqw p d x s
  | .pcmpeqd p d x => Sys2Proof.Machine.execPcmpeqd p d x s
  | .emms p => Sys2Proof.Machine.execEmms p s
  | .movdStore p d x => Sys2Proof.Machine.execMovdStore p d x s
  | .movqStore p d x => Sys2Proof.Machine.execMovqStore p d x s
  | .cpuid p => Sys2Proof.Machine.execCpuid p s
  | .rsm p => Sys2Proof.Machine.execRsm p s
  | .cmpxchg8b p x => Sys2Proof.Machine.execCmpxchg8b p x s
  | .psrlw p d x => Sys2Proof.Machine.execPsrlw p d x s
  | .psrld p d x => Sys2Proof.Machine.execPsrld p d x s
  | .psrlq p d x => Sys2Proof.Machine.execPsrlq p d x s
  | .pmullw p d x => Sys2Proof.Machine.execPmullw p d x s
  | .psubusb p d x => Sys2Proof.Machine.execPsubusb p d x s
  | .psubusw p d x => Sys2Proof.Machine.execPsubusw p d x s
  | .pand p d x => Sys2Proof.Machine.execPand p d x s
  | .paddusb p d x => Sys2Proof.Machine.execPaddusb p d x s
  | .paddusw p d x => Sys2Proof.Machine.execPaddusw p d x s
  | .pandn p d x => Sys2Proof.Machine.execPandn p d x s
  | .psraw p d x => Sys2Proof.Machine.execPsraw p d x s
  | .psrad p d x => Sys2Proof.Machine.execPsrad p d x s
  | .pmulhw p d x => Sys2Proof.Machine.execPmulhw p d x s
  | .psubsb p d x => Sys2Proof.Machine.execPsubsb p d x s
  | .psubsw p d x => Sys2Proof.Machine.execPsubsw p d x s
  | .por p d x => Sys2Proof.Machine.execPor p d x s
  | .paddsb p d x => Sys2Proof.Machine.execPaddsb p d x s
  | .paddsw p d x => Sys2Proof.Machine.execPaddsw p d x s
  | .pxor p d x => Sys2Proof.Machine.execPxor p d x s
  | .psllw p d x => Sys2Proof.Machine.execPsllw p d x s
  | .pslld p d x => Sys2Proof.Machine.execPslld p d x s
  | .psllq p d x => Sys2Proof.Machine.execPsllq p d x s
  | .pmaddwd p d x => Sys2Proof.Machine.execPmaddwd p d x s
  | .psubb p d x => Sys2Proof.Machine.execPsubb p d x s
  | .psubw p d x => Sys2Proof.Machine.execPsubw p d x s
  | .psubd p d x => Sys2Proof.Machine.execPsubd p d x s
  | .paddb p d x => Sys2Proof.Machine.execPaddb p d x s
  | .paddw p d x => Sys2Proof.Machine.execPaddw p d x s
  | .paddd p d x => Sys2Proof.Machine.execPaddd p d x s
  | .fcmovb p n => Sys2Proof.Machine.execFcmovb p n s
  | .fcmove p n => Sys2Proof.Machine.execFcmove p n s
  | .fcmovbe p n => Sys2Proof.Machine.execFcmovbe p n s
  | .fcmovu p n => Sys2Proof.Machine.execFcmovu p n s
  | .fcmovnb p n => Sys2Proof.Machine.execFcmovnb p n s
  | .fcmovne p n => Sys2Proof.Machine.execFcmovne p n s
  | .fcmovnbe p n => Sys2Proof.Machine.execFcmovnbe p n s
  | .fcmovnu p n => Sys2Proof.Machine.execFcmovnu p n s
  | .fucomi p n => Sys2Proof.Machine.execFucomi p n s
  | .fcomi p n => Sys2Proof.Machine.execFcomi p n s
  | .fucomip p n => Sys2Proof.Machine.execFucomip p n s
  | .fcomip p n => Sys2Proof.Machine.execFcomip p n s

end Sys2Proof.Machine
end

