-- ==== Sys2Proof/Machine/Base.lean ====
section
/-! DEFINITION. The base instructions whose effect some rule states (log 28): CLI, STI, HLT, INT n, the moves of the
control and debug registers, and PUSHF, POPF and IRET where a rule says what they do. -/

namespace Sys2Proof.Machine

/-- CLI and STI act on VIF: VME in virtual-8086 mode (60 R531), PVI at CPL 3 of protected mode (60 R536), IOPL below 3. -/
def State.virtualIf (s : State) : Bool :=
  s.method6 || (s.mode == .prot && s.pvi && s.cplNow == 3 && s.iopl != 3)

/-- CPL > IOPL (60 R536, R537). -/
def State.ioDenied (s : State) : Bool := s.cplNow.toNat > s.iopl.toNat

/-- VIF says that maskable interrupts are deferred, by the polarity parameter (60 R530, R531, log 10). -/
def State.vifMasks (s : State) : Bool := s.flag bitVIF == s.cfg.vifSetMeansMasked

/-- CLI (60 R531, R536, R537). -/
def execCli (len : Nat) (s : State) : Host.Outcome State Fault Refusal :=
  if s.virtualIf then .next ((s.setFlag bitVIF s.cfg.vifSetMeansMasked).advance len)
  else if s.ioDenied then takeException .gp s
  else .next ((s.setFlag bitIF false).advance len)

/-- STI (60 R531, R533, R536, R537): with VIP = 1 the virtual form raises #GP. -/
def execSti (len : Nat) (s : State) : Host.Outcome State Fault Refusal :=
  if s.virtualIf then
    if s.flag bitVIP then raise .stiPending s.eip s
    else .next ((s.setFlag bitVIF (!s.cfg.vifSetMeansMasked)).advance len)
  else if s.ioDenied then takeException .gp s
  else .next ((s.setFlag bitIF true).advance len)

/-- HLT (60 R516, R567; CPL 0 PRESUMED, log 28). -/
def execHlt (len : Nat) (s : State) : Host.Outcome State Fault Refusal :=
  if s.cplNow != 0 then takeException .gp s
  else .next ({ s with halted := true }.advance len)

/-- The redirection bit of a vector: bit `n mod 8` of byte `n div 8` of the 32 bytes below the I/O permission map, read
through TR with supervisor rights (60 R527). The limit of the TSS is not checked (DESIGN CHOICE, log 67: R527 says that
TSS limit checks are not in the source). -/
def State.redirectionBit (s : State) (n : Byte) : Res Bool :=
  (s.systemRead (s.tr.base + 0x66) 2).bind fun bs s =>
    let map := s.tr.base + (leValue 16 bs).setWidth 32 - 32
    (s.systemRead (map + BitVec.ofNat 32 (n.toNat / 8)) 1).bind fun bs s =>
      .ok ((leValue 8 bs).getLsbD (n.toNat % 8)) s

/-- INT n (60 R526): in virtual-8086 mode by Table 9.1, elsewhere delivered by the mode; EIP saved is the next
instruction's (92_eei D17). -/
def execInt (n : Byte) (len : Nat) (s : State) : Host.Outcome State Fault Refusal :=
  let saved := s.eip + BitVec.ofNat 32 len
  if s.mode = .v86 then
    if s.iopl ≠ 3 then takeException .gp s
    else if s.vme then
      match s.redirectionBit n with
      | .ok true t => raiseSoftware (.soft n) saved t
      | .ok false t => raiseSoftware (.redirected n) saved t
      | .exn e => takeException e s
      | .stop x => x.outcome
    else raiseSoftware (.soft n) saved s
  else raiseSoftware (.soft n) saved s

/-- PUSHF, POPF and IRET (60 R534): #GP(0) in virtual-8086 mode with IOPL below 3; elsewhere they are the base machine's,
which the spec does not describe (60 R514, 93 U28). -/
def execFlagsOp (op : Byte) (s : State) : Host.Outcome State Fault Refusal :=
  if s.mode = .v86 ∧ s.iopl ≠ 3 then takeException .gp s else .refused (.baseInstruction (0#8 ++ op))

/-- A move of a control or debug register at CPL 0, else #GP(0) (10_state R39, 60 R515). -/
def atCpl0 (len : Nat) (op : State → Res Unit) (s : State) : Host.Outcome State Fault Refusal :=
  Res.finish
    (if s.cplNow != 0 then .exn .gp else (op s).bind fun _ t => .ok () (t.advance len))
    s

/-- MOV CR3, r32: the remembered walks are forgotten, the global ones under CR4.PGE stay (20_memory R119). All 32 bits are
stored as written, the reserved low ones among them, and none raises an exception (DESIGN CHOICE, log 64). -/
def moveToCr3 (r : RegNum) (s : State) : Res Unit := .ok () (State.flushTlb { s with cr3 := s.r32 r })

/-- MOV CR4, r32 (10_state R39): a reserved bit raises #GP(0); ENABLING PAE in SMM is refused (93 U25), a write that finds
it set is not. -/
def moveToCr4 (r : RegNum) (s : State) : Res Unit :=
  if s.r32 r &&& cr4Reserved s.cfg ≠ 0 then .exn .gp
  else if s.inSmm && (s.r32 r).getLsbD 5 && !s.pae then .stop (.refused .paeInSmm)
  else .ok () { s with cr4 := s.r32 r }

/-- The bits of CR0 that hold no field (10_state R35; places PRESUMED, log 63). -/
def cr0Reserved : Dword := 0x1FFAFFC0

/-- MOV CR0, r32 (10_state R35, 60 R515): a reserved bit raises #GP(0) by 10_state R35, and so does a combination it calls
illegal (PRESUMED, log 63); paging turned on in SMM with CR4.PAE set is refused, for PAE takes effect there (20_memory
R120, 93 U25). Setting PE enters protected mode at CPL 0 (log 63); the segment registers keep their hidden parts. -/
def moveToCr0 (r : RegNum) (s : State) : Res Unit :=
  let v := s.r32 r
  if v &&& cr0Reserved ≠ 0 || cr0Illegal v then .exn .gp
  else if s.inSmm && v.getLsbD 31 && !s.pg && s.pae then .stop (.refused .paeInSmm)
  else .ok () { s with cr0 := v, cpl := 0 }

/-- The moves of a debug register: DR4 and DR5 raise #UD under CR4.DE, else they are DR6 and DR7 (10_state R38, 60 R505);
CPL 0 as for CR4 (PRESUMED, log 28). -/
def debugMove (n : RegNum) (len : Nat) (op : State → State) (s : State) : Host.Outcome State Fault Refusal :=
  if s.de && drAliased n then takeException .ud s
  else atCpl0 len (fun t => .ok () (op t)) s

/-- A base instruction (log 28); LOCK raises #UD. -/
def execBase (p : List Pfx) (b : BaseOp) (len : Nat) (s : State) : Host.Outcome State Fault Refusal :=
  if locked p then takeException .ud s
  else
    match b with
    | .cli => execCli len s
    | .sti => execSti len s
    | .hlt => execHlt len s
    | .int n => execInt n len s
    | .movToCr0 r => atCpl0 len (moveToCr0 r) s
    | .movFromCr0 r => atCpl0 len (fun t => .ok () (t.setR32 r t.cr0)) s
    | .movToCr2 r => atCpl0 len (fun t => .ok () { t with cr2 := t.r32 r }) s
    | .movFromCr2 r => atCpl0 len (fun t => .ok () (t.setR32 r t.cr2)) s
    | .movToCr3 r => atCpl0 len (moveToCr3 r) s
    | .movFromCr3 r => atCpl0 len (fun t => .ok () (t.setR32 r t.cr3)) s
    | .movToCr4 r => atCpl0 len (moveToCr4 r) s
    | .movFromCr4 r => atCpl0 len (fun t => .ok () (t.setR32 r t.cr4)) s
    | .movToDr n r => debugMove n len (fun t => { t with dr := t.dr.put n (t.r32 r) }) s
    | .movFromDr n r => debugMove n len (fun t => t.setR32 r (t.dr.get n)) s
    | .flagsOp op => execFlagsOp op s

end Sys2Proof.Machine
end

