-- ==== Sys2Proof/Machine/Events.lean ====
section
/-! DEFINITION. What happens between two instructions: the host's inputs (60 R513), the order in which a pending event is
taken (60 R512, R565), RESET and INIT (70_reset R601, R605), and the counters (10_state R44, 60 R591). -/

namespace Sys2Proof.Machine

/-! ## RESET and INIT -/

/-- RESET (70_reset R601, R602): the reset state of this configuration, with the bits that EFLAGS, CR4 and CESR reserve as
they always read (log 2); memory and the host's own inputs, a pending INTR# request among them (log 12), stay,
the FPU data registers hold arbitrary values (93 U18). -/
def State.resetBy (s : State) : State :=
  { State.resetOf s.cfg with
    eflags := sanitizeEflags s.cfg.resetState.eflags
    cr4 := s.cfg.resetState.cr4 &&& ~~~ cr4Reserved s.cfg
    cesr := s.cfg.resetState.cesr &&& cesrMask.setWidth 32
    fpr := #v[Config.freeBits 80 s.draws, Config.freeBits 80 (s.draws + 1), Config.freeBits 80 (s.draws + 2),
      Config.freeBits 80 (s.draws + 3), Config.freeBits 80 (s.draws + 4), Config.freeBits 80 (s.draws + 5),
      Config.freeBits 80 (s.draws + 6), Config.freeBits 80 (s.draws + 7)]
    intrLine := s.intrLine
    mem := s.mem
    smram := s.smram
    inputs := s.inputs
    draws := s.draws + 8
    lastExn := s.lastExn
    deliveryExn := s.deliveryExn }

/-- INIT (70_reset R605, log 13): as RESET, but the FPU and MMX registers, the MSRs, the TSC and SMBASE stay. The
remembered walks are forgotten as at RESET: they are not counted among the caches R605 keeps (DESIGN CHOICE, log 13). -/
def State.initBy (s : State) : State :=
  { s.resetBy with
    fpr := s.fpr
    fcw := s.fcw
    fsw := s.fsw
    ftw := s.ftw
    tsc := s.tsc
    cesr := s.cesr
    ctr0 := s.ctr0
    ctr1 := s.ctr1
    smbase := s.smbase }

/-! ## Signals -/

/-- HLT inside SMM ends with a maskable interrupt or RESET only (60 R568). -/
def State.smmHalt (s : State) : Bool := s.inSmm && s.halted && !s.shutdown

/-- One input of the host (60 R513, log 12, log 13). SMI is ignored in shutdown (60 R570) and latched otherwise; NMI ends
shutdown and is latched; FLUSH# and A20M# have no described effect. One INTR# request is held: a further one replaces its
vector and the earlier request is lost (DESIGN CHOICE, log 12: 60 R513 does not say how a pending request is held); a
further NMI# while one is latched is lost, by 60 R565 in SMM and by choice outside it (DESIGN CHOICE, log 12). -/
def State.absorb (s : State) (i : Input) : State :=
  match i with
  | .reset => s.resetBy
  | .init => if s.smmHalt then s else s.initBy
  | .nmi => { s with nmiLatched := true, shutdown := false }
  | .smi io =>
    if s.shutdown then s
    else if s.inSmm then { s with smiLatched := true }
    else { s with smiLatched := true, ioRestartEip := io }
  | .intr v => { s with intrLine := some v }
  | .intrOff => { s with intrLine := none }
  | .flush => s
  | .a20m => s

/-! ## Counters -/

/-- The CPL condition of a CC field (10_state R46): 001 and 101 CPL below 3, 010 and 110 CPL 3, 011 and 111 any, 000 and
100 never. -/
def ccCounts (cc : BitVec 3) (cpl : BitVec 2) : Bool :=
  match cc.toNat with
  | 1 => cpl != 3
  | 2 => cpl == 3
  | 3 => true
  | 5 => cpl != 3
  | 6 => cpl == 3
  | 7 => true
  | _ => false

/-- The CC field enables its counter: every value but 000 and 100 (10_state R46). -/
def ccEnabled (cc : BitVec 3) : Bool := cc != 0 && cc != 4

/-- A counter after some time (60 R591, 92_eei D9): unchanged with CC = 000 or 100; an arbitrary value when it is enabled
with an event number that is not described (93 U13), whether it counts events or clocks; else advanced by an arbitrary amount
when the CPL condition held before or after the step, modulo 2^40 (log 32). -/
def counterAfter (c : Config) (second : Bool) (cc : BitVec 3) (event : BitVec 6) (before after : BitVec 2)
    (v fresh : BitVec 40) : BitVec 40 :=
  if ccEnabled cc && !eventDefined c second event.toNat then fresh
  else if ccCounts cc before || ccCounts cc after then v + fresh
  else v

/-- What passes between two instructions: TSC grows by an arbitrary positive amount, the counters by what CESR selects
(10_state R44, 92_eei D9); `s` is the state before the step, `t` after it. -/
def tick (s t : State) : State :=
  { t with
    tsc := t.tsc + (t.free 32 : Dword).setWidth 64 + 1
    ctr0 := counterAfter t.cfg false (t.cesr.extractLsb' 6 3) (t.cesr.extractLsb' 0 6) s.cplNow t.cplNow t.ctr0
      (Config.freeBits 40 (t.draws + 1))
    ctr1 := counterAfter t.cfg true (t.cesr.extractLsb' 22 3) (t.cesr.extractLsb' 16 6) s.cplNow t.cplNow t.ctr1
      (Config.freeBits 40 (t.draws + 2))
    draws := t.draws + 3 }

/-- Time passes after every step that goes on. -/
def ticked (s : State) (o : Host.Outcome State Fault Refusal) : Host.Outcome State Fault Refusal :=
  match o with
  | .next t => .next (tick s t)
  | .fault f => .fault f
  | .refused r => .refused r

/-! ## Pending events -/

/-- A maskable interrupt that VIF defers: method 6, or protected mode with virtual interrupts on (60 R530, R532, R538). -/
def State.defers (s : State) : Bool := s.virtualIf && s.vifMasks

/-- A maskable interrupt stays pending and nothing is taken for it: IF = 0, or VIF defers it and VIP = 1 says that the
monitor knows of it, so that the program goes on until its STI (60 R532, R533, R538). -/
def State.holdsIntr (s : State) : Bool := !s.flag bitIF || (s.defers && s.flag bitVIP)

/-- The event taken before the next instruction, if any (60 R512, R565, R570): SMI, then shutdown, then the single step
of the instruction before, then NMI, then INTR, then the halt state (their order after SMI is the model's, log 12, log
62). In the halt state of SMM a maskable interrupt alone is taken (60 R568); a single step that is pending when the halt
state is entered outside SMM is taken and ends it (DESIGN CHOICE, log 62: R516 does not name it among the wake events). A
further NMI is taken although the handler of one before it still runs: outside SMM nothing blocks it (DESIGN CHOICE, log 12:
60 R513 does not say how NMI is cleared). The vector of INTR# is what the host gives, 0
to 255: the mechanism of VIF and VIP is that of vectors 32 to 255 (60 R539), and a smaller one is deferred or delivered
like them (DESIGN CHOICE, log 60). -/
def pendingEvent (s : State) : Option (Host.Outcome State Fault Refusal) :=
  if s.smiLatched && !s.inSmm && !s.shutdown then some (Res.finish (smiEntry s) s)
  else if s.shutdown then some (.next s)
  else if s.stepTrap && !s.smmHalt then some (raise .singleStep s.eip s)
  else if s.nmiLatched && !s.nmiBlocked && !s.smmHalt then some (raise .nmi s.eip { s with nmiLatched := false })
  else if s.intrLine.isSome && !s.holdsIntr then
    if s.defers then some (raise .deferred s.eip s)
    else some (raise (.intr (s.intrLine.getD 0)) s.eip { s with intrLine := none })
  else if s.halted then some (.next s)
  else none

end Sys2Proof.Machine
end

