-- ==== Sys2Proof/Decode.lean ====
section
/-! DEFINITION. The decoder, total on any bytes, and after it the encoder (30_encoding R140 to R178). -/

namespace Sys2Proof

/-! ## Bits and bytes of an encoding -/

/-- `mod` = bits 7:6 of ModR/M, `scale` of SIB (30_encoding R142, R151). -/
def modField (b : Byte) : BitVec 2 := b.extractLsb' 6 2

/-- `reg` = bits 5:3 of ModR/M, `index` of SIB. -/
def regField (b : Byte) : RegNum := b.extractLsb' 3 3

/-- `r/m` = bits 2:0 of ModR/M, `base` of SIB. -/
def rmField (b : Byte) : RegNum := b.extractLsb' 0 3

/-- The byte with these three fields. -/
def fieldByte (m : BitVec 2) (r x : RegNum) : Byte := m ++ r ++ x

/-- Two bytes, the lower first, as a word (30_encoding R152). -/
def word16 (b0 b1 : Byte) : Word16 := b1 ++ b0

/-- Four bytes, the lowest first, as a doubleword (30_encoding R152). -/
def dword (b0 b1 b2 b3 : Byte) : Dword := b3 ++ b2 ++ b1 ++ b0

/-- The `k`-th byte of a value, the lowest first. -/
def byteOf (w : Nat) (v : BitVec w) (k : Nat) : Byte := v.extractLsb' (8 * k) 8

/-! ## The bytes before the opcode -/

/-- The code of a segment override (30_encoding R157). -/
def SegName.byte : SegName → Byte
  | .es => 0x26
  | .cs => 0x2E
  | .ss => 0x36
  | .ds => 0x3E
  | .fs => 0x64
  | .gs => 0x65

/-- The code of one of the bytes before an opcode (30_encoding R157). -/
def Pfx.byte : Pfx → Byte
  | .opSize => 0x66
  | .addrSize => 0x67
  | .seg s => s.byte
  | .repne => 0xF2
  | .rep => 0xF3
  | .lock => 0xF0

/-- All of them. -/
def Pfx.all : List Pfx :=
  [.opSize, .addrSize, .seg .es, .seg .cs, .seg .ss, .seg .ds, .seg .fs, .seg .gs, .repne, .rep, .lock]

/-- The one a byte is, if any (30_encoding R157). -/
def Pfx.ofByte (b : Byte) : Option Pfx :=
  Pfx.all.find? fun p => p.byte == b

/-- Step 1 of 30_encoding R154: what precedes the opcode, and the bytes from the opcode on. -/
def takePfx : List Byte → List Pfx × List Byte
  | [] => ([], [])
  | b :: t =>
    match Pfx.ofByte b with
    | some p => (p :: (takePfx t).1, (takePfx t).2)
    | none => ([], b :: t)

/-! ## ModR/M, SIB and displacement -/

/-- A 16-bit displacement and the bytes after it; `none` when bytes are missing. -/
def take16 : List Byte → Option (Word16 × List Byte)
  | b0 :: b1 :: t => some (word16 b0 b1, t)
  | _ => none

/-- A 32-bit displacement and the bytes after it. -/
def take32 : List Byte → Option (Dword × List Byte)
  | b0 :: b1 :: b2 :: b3 :: t => some (dword b0 b1 b2 b3, t)
  | _ => none

/-- The displacement that `mod` 00, 01 or 10 asks for, 16-bit forms (30_encoding R153). -/
def takeDisp16 (mod : BitVec 2) (t : List Byte) : Option (Disp16 × List Byte) :=
  if mod = 0 then some (.none, t)
  else if mod = 1 then
    match t with
    | b :: t' => some (.d8 b, t')
    | [] => none
  else (take16 t).map fun r => (.d16 r.1, r.2)

/-- The same of the 32-bit forms (30_encoding R150, R151). -/
def takeDisp32 (mod : BitVec 2) (t : List Byte) : Option (Disp32 × List Byte) :=
  if mod = 0 then some (.none, t)
  else if mod = 1 then
    match t with
    | b :: t' => some (.d8 b, t')
    | [] => none
  else (take32 t).map fun r => (.d32 r.1, r.2)

/-- The memory form after a ModR/M byte with address size 16 (30_encoding R153). -/
def takeMem16 (mod : BitVec 2) (rm : RegNum) (t : List Byte) : Option (Mem × List Byte) :=
  if mod = 0 ∧ rm = 6 then (take16 t).map fun r => (.abs16 r.1, r.2)
  else (takeDisp16 mod t).map fun r => (.based16 rm r.1, r.2)

/-- The memory form after a ModR/M byte with address size 32 (30_encoding R150, R151). -/
def takeMem32 (mod : BitVec 2) (rm : RegNum) (t : List Byte) : Option (Mem × List Byte) :=
  if rm = 4 then
    match t with
    | [] => none
    | b :: t' =>
      if mod = 0 ∧ rmField b = 5 then
        (take32 t').map fun r => (.sibNoBase (modField b) (regField b) r.1, r.2)
      else
        (takeDisp32 mod t').map fun r => (.sib (modField b) (regField b) (rmField b) r.1, r.2)
  else if mod = 0 ∧ rm = 5 then (take32 t).map fun r => (.abs32 r.1, r.2)
  else (takeDisp32 mod t).map fun r => (.based32 rm r.1, r.2)

/-- The `reg` field, the `r/m` operand and the bytes after it (30_encoding R142); `none` when bytes are missing. -/
def takeRm (wide : Bool) : List Byte → Option (RegNum × Rm × List Byte)
  | [] => none
  | b :: t =>
    if modField b = 3 then some (regField b, .reg (rmField b), t)
    else
      (if wide then takeMem32 (modField b) (rmField b) t else takeMem16 (modField b) (rmField b) t).map
        fun r => (regField b, .mem r.1, r.2)

/-! ## The opcode map -/

/-- What the decoder answers. -/
inductive Decoded where
  /-- The instruction goes on past these bytes. -/
  | needMore
  /-- An encoding that raises #UD (30_encoding R167 to R170, 92_eei D13). -/
  | invalid
  /-- An opcode of the base machine (93 U28); the high byte is 0Fh for a two-byte one. -/
  | outside (op : Word16)
  /-- A base instruction that some rule describes (log 28), the bytes before it and its length. -/
  | base (p : List Pfx) (b : BaseOp) (len : Nat)
  /-- An instruction of the opcode table. -/
  | instr (i : Instr)
deriving DecidableEq, Repr

/-- What a second opcode byte asks for. -/
inductive Form where
  /-- No operand bytes. -/
  | bare (f : List Pfx → Instr)
  /-- `/r`. -/
  | modrm (f : List Pfx → RegNum → Rm → Instr)
  /-- `/digit ib` with `mod = 11`: the instruction of each assigned digit (30_encoding R145, R168). -/
  | group (f : RegNum → Option (List Pfx → RegNum → Byte → Instr))
  /-- `/1` with an `r/m` operand (CMPXCHG8B). -/
  | digit1 (f : List Pfx → Rm → Instr)
  /-- A register move of the control or debug registers: `reg` selects, `r/m` is the general register. -/
  | move (f : RegNum → RegNum → Option BaseOp)
  /-- #UD. -/
  | invalid
  /-- Base machine, not described. -/
  | outside

/-- Word-size immediate shifts, `0F 71` (30_encoding R164). -/
def group71 (d : RegNum) : Option (List Pfx → RegNum → Byte → Instr) :=
  if d = 2 then some .psrlwImm else if d = 4 then some .psrawImm else if d = 6 then some .psllwImm else none

/-- Doubleword-size immediate shifts, `0F 72`. -/
def group72 (d : RegNum) : Option (List Pfx → RegNum → Byte → Instr) :=
  if d = 2 then some .psrldImm else if d = 4 then some .psradImm else if d = 6 then some .pslldImm else none

/-- Quadword-size immediate shifts, `0F 73`. -/
def group73 (d : RegNum) : Option (List Pfx → RegNum → Byte → Instr) :=
  if d = 2 then some .psrlqImm else if d = 6 then some .psllqImm else none

/-- `0F 20`: MOV r32, CR0, CR2, CR3 and CR4 (PRESUMED, log 28). -/
def moveFromCr (n r : RegNum) : Option BaseOp :=
  if n = 0 then some (.movFromCr0 r) else if n = 2 then some (.movFromCr2 r)
  else if n = 3 then some (.movFromCr3 r) else if n = 4 then some (.movFromCr4 r) else none

/-- `0F 22`: MOV CR0, CR2, CR3 and CR4, r32 (PRESUMED, log 28). -/
def moveToCr (n r : RegNum) : Option BaseOp :=
  if n = 0 then some (.movToCr0 r) else if n = 2 then some (.movToCr2 r)
  else if n = 3 then some (.movToCr3 r) else if n = 4 then some (.movToCr4 r) else none

/-- `0F 21` and `0F 23`: MOV from and to the debug registers (PRESUMED, log 28). -/
def moveFromDr (n r : RegNum) : Option BaseOp := some (.movFromDr n r)
def moveToDr (n r : RegNum) : Option BaseOp := some (.movToDr n r)

/-- The second opcode byte after 0Fh (30_encoding R164, R168 to R170; the `0F 60..7F` and `0F D0..FF` rows that are
assigned to nothing raise #UD, every other byte is the base machine's). -/
def form0F (op : Byte) : Form :=
  match op.toNat with
  | 0x20 => .move moveFromCr
  | 0x21 => .move moveFromDr
  | 0x22 => .move moveToCr
  | 0x23 => .move moveToDr
  | 0x24 => .invalid
  | 0x26 => .invalid
  | 0x0B => .bare .ud2
  | 0x30 => .bare .wrmsr
  | 0x31 => .bare .rdtsc
  | 0x32 => .bare .rdmsr
  | 0x33 => .bare .rdpmc
  | 0x40 => .modrm .cmovo
  | 0x41 => .modrm .cmovno
  | 0x42 => .modrm .cmovb
  | 0x43 => .modrm .cmovae
  | 0x44 => .modrm .cmove
  | 0x45 => .modrm .cmovne
  | 0x46 => .modrm .cmovbe
  | 0x47 => .modrm .cmova
  | 0x48 => .modrm .cmovs
  | 0x49 => .modrm .cmovns
  | 0x4A => .modrm .cmovp
  | 0x4B => .modrm .cmovnp
  | 0x4C => .modrm .cmovl
  | 0x4D => .modrm .cmovge
  | 0x4E => .modrm .cmovle
  | 0x4F => .modrm .cmovg
  | 0x60 => .modrm .punpcklbw
  | 0x61 => .modrm .punpcklwd
  | 0x62 => .modrm .punpckldq
  | 0x63 => .modrm .packsswb
  | 0x64 => .modrm .pcmpgtb
  | 0x65 => .modrm .pcmpgtw
  | 0x66 => .modrm .pcmpgtd
  | 0x67 => .modrm .packuswb
  | 0x68 => .modrm .punpckhbw
  | 0x69 => .modrm .punpckhwd
  | 0x6A => .modrm .punpckhdq
  | 0x6B => .modrm .packssdw
  | 0x6E => .modrm .movdLoad
  | 0x6F => .modrm .movqLoad
  | 0x71 => .group group71
  | 0x72 => .group group72
  | 0x73 => .group group73
  | 0x74 => .modrm .pcmpeqb
  | 0x75 => .modrm .pcmpeqw
  | 0x76 => .modrm .pcmpeqd
  | 0x77 => .bare .emms
  | 0x7E => .modrm .movdStore
  | 0x7F => .modrm .movqStore
  | 0xA2 => .bare .cpuid
  | 0xAA => .bare .rsm
  | 0xC7 => .digit1 .cmpxchg8b
  | 0xD1 => .modrm .psrlw
  | 0xD2 => .modrm .psrld
  | 0xD3 => .modrm .psrlq
  | 0xD5 => .modrm .pmullw
  | 0xD8 => .modrm .psubusb
  | 0xD9 => .modrm .psubusw
  | 0xDB => .modrm .pand
  | 0xDC => .modrm .paddusb
  | 0xDD => .modrm .paddusw
  | 0xDF => .modrm .pandn
  | 0xE1 => .modrm .psraw
  | 0xE2 => .modrm .psrad
  | 0xE5 => .modrm .pmulhw
  | 0xE8 => .modrm .psubsb
  | 0xE9 => .modrm .psubsw
  | 0xEB => .modrm .por
  | 0xEC => .modrm .paddsb
  | 0xED => .modrm .paddsw
  | 0xEF => .modrm .pxor
  | 0xF1 => .modrm .psllw
  | 0xF2 => .modrm .pslld
  | 0xF3 => .modrm .psllq
  | 0xF5 => .modrm .pmaddwd
  | 0xF8 => .modrm .psubb
  | 0xF9 => .modrm .psubw
  | 0xFA => .modrm .psubd
  | 0xFC => .modrm .paddb
  | 0xFD => .modrm .paddw
  | 0xFE => .modrm .paddd
  | n => if (0x60 ≤ n ∧ n < 0x80) ∨ 0xD0 ≤ n then .invalid else .outside

/-- The FPU forms by escape byte and `reg` field, `mod = 11` (30_encoding R165); `none` is the base machine's. -/
def formEsc (esc : Byte) (reg : RegNum) : Option (List Pfx → RegNum → Instr) :=
  match esc.toNat, reg.toNat with
  | 0xDA, 0 => some .fcmovb
  | 0xDA, 1 => some .fcmove
  | 0xDA, 2 => some .fcmovbe
  | 0xDA, 3 => some .fcmovu
  | 0xDB, 0 => some .fcmovnb
  | 0xDB, 1 => some .fcmovne
  | 0xDB, 2 => some .fcmovnbe
  | 0xDB, 3 => some .fcmovnu
  | 0xDB, 5 => some .fucomi
  | 0xDB, 6 => some .fcomi
  | 0xDF, 5 => some .fucomip
  | 0xDF, 6 => some .fcomip
  | _, _ => none

/-- The rest of an instruction `0F op` (30_encoding R154 steps 2 to 5). -/
def decode0F (wide : Bool) (p : List Pfx) (op : Byte) (t : List Byte) : Decoded :=
  match form0F op with
  | .bare f => .instr (f p)
  | .modrm f =>
    match takeRm wide t with
    | some (d, x, _) => .instr (f p d x)
    | none => .needMore
  | .group f =>
    match t with
    | [] => .needMore
    | b :: t' =>
      if modField b = 3 then
        match f (regField b) with
        | some g =>
          match t' with
          | n :: _ => .instr (g p (rmField b) n)
          | [] => .needMore
        | none => .invalid
      else .invalid
  | .digit1 f =>
    match t with
    | [] => .needMore
    | b :: t' =>
      if regField b = 1 then
        match takeRm wide (b :: t') with
        | some (_, x, _) => .instr (f p x)
        | none => .needMore
      else .invalid
  | .move f =>
    match t with
    | [] => .needMore
    | b :: _ =>
      if modField b = 3 then
        match f (regField b) (rmField b) with
        | some o => .base p o (p.length + 3)
        | none => .outside (0x0F#8 ++ op)
      else .outside (0x0F#8 ++ op)
  | .invalid => .invalid
  | .outside => .outside (0x0F#8 ++ op)

/-- A one-byte opcode: the FPU escapes of this spec, the described base instructions, or the base machine. -/
def decode1 (p : List Pfx) (op : Byte) (t : List Byte) : Decoded :=
  if op = 0xDA ∨ op = 0xDB ∨ op = 0xDF then
    match t with
    | [] => .needMore
    | b :: _ =>
      if modField b = 3 then
        match formEsc op (regField b) with
        | some f => .instr (f p (rmField b))
        | none => .outside (0#8 ++ op)
      else .outside (0#8 ++ op)
  else if op = 0xFA then .base p .cli (p.length + 1)
  else if op = 0xFB then .base p .sti (p.length + 1)
  else if op = 0xF4 then .base p .hlt (p.length + 1)
  else if op = 0x9C ∨ op = 0x9D ∨ op = 0xCF then .base p (.flagsOp op) (p.length + 1)
  else if op = 0xCD then
    match t with
    | [] => .needMore
    | n :: _ => .base p (.int n) (p.length + 2)
  else .outside (0#8 ++ op)

/-- Decode the instruction at the start of `bytes`, in a code segment whose default size is 32 bits when `big`
(30_encoding R154). -/
def decode (big : Bool) (bytes : List Byte) : Decoded :=
  let p := (takePfx bytes).1
  match (takePfx bytes).2 with
  | [] => .needMore
  | op :: t =>
    if op = 0x0F then
      match t with
      | [] => .needMore
      | op2 :: t' => decode0F (addrWide big p) p op2 t'
    else decode1 p op t

/-- The bytes of an instruction word numbered as spec/opcode_table.json numbers it (the first byte is bits 7:0),
followed by zero bytes up to the longest instruction. -/
def tableBytes (nbits w : Nat) : List Byte :=
  ((List.range (nbits / 8)).map fun k => BitVec.ofNat 8 (w >>> (8 * k))) ++ List.replicate (15 - nbits / 8) 0

/-- What this decoder reads from a table word, at the default sizes of the machine after reset (16-bit). -/
def decodeTableWord (nbits w : Nat) : Option Instr :=
  match decode false (tableBytes nbits w) with
  | .instr i => some i
  | _ => none

/-! ## The encoder -/

/-- The opcode of an instruction and its operands' places (30_encoding R145, R164). -/
inductive Shape where
  /-- `0F op`. -/
  | bare (op : Byte)
  /-- `0F op`, `reg` field, `r/m` operand. -/
  | modrm (op : Byte) (reg : RegNum) (x : Rm)
  /-- `0F op`, digit in `reg`, register in `r/m`, immediate byte. -/
  | imm (op : Byte) (digit d : RegNum) (n : Byte)
  /-- Escape byte, then `11 reg i`. -/
  | stack (esc : Byte) (reg i : RegNum)
deriving DecidableEq, Repr

/-- The encoding row of every instruction (30_encoding R164). -/
def Instr.shape : Instr → Shape
  | .ud2 _ => .bare 0x0B
  | .wrmsr _ => .bare 0x30
  | .rdtsc _ => .bare 0x31
  | .rdmsr _ => .bare 0x32
  | .rdpmc _ => .bare 0x33
  | .cmovo _ d x => .modrm 0x40 d x
  | .cmovno _ d x => .modrm 0x41 d x
  | .cmovb _ d x => .modrm 0x42 d x
  | .cmovae _ d x => .modrm 0x43 d x
  | .cmove _ d x => .modrm 0x44 d x
  | .cmovne _ d x => .modrm 0x45 d x
  | .cmovbe _ d x => .modrm 0x46 d x
  | .cmova _ d x => .modrm 0x47 d x
  | .cmovs _ d x => .modrm 0x48 d x
  | .cmovns _ d x => .modrm 0x49 d x
  | .cmovp _ d x => .modrm 0x4A d x
  | .cmovnp _ d x => .modrm 0x4B d x
  | .cmovl _ d x => .modrm 0x4C d x
  | .cmovge _ d x => .modrm 0x4D d x
  | .cmovle _ d x => .modrm 0x4E d x
  | .cmovg _ d x => .modrm 0x4F d x
  | .punpcklbw _ d x => .modrm 0x60 d x
  | .punpcklwd _ d x => .modrm 0x61 d x
  | .punpckldq _ d x => .modrm 0x62 d x
  | .packsswb _ d x => .modrm 0x63 d x
  | .pcmpgtb _ d x => .modrm 0x64 d x
  | .pcmpgtw _ d x => .modrm 0x65 d x
  | .pcmpgtd _ d x => .modrm 0x66 d x
  | .packuswb _ d x => .modrm 0x67 d x
  | .punpckhbw _ d x => .modrm 0x68 d x
  | .punpckhwd _ d x => .modrm 0x69 d x
  | .punpckhdq _ d x => .modrm 0x6A d x
  | .packssdw _ d x => .modrm 0x6B d x
  | .movdLoad _ d x => .modrm 0x6E d x
  | .movqLoad _ d x => .modrm 0x6F d x
  | .psrlwImm _ d n => .imm 0x71 2 d n
  | .psrawImm _ d n => .imm 0x71 4 d n
  | .psllwImm _ d n => .imm 0x71 6 d n
  | .psrldImm _ d n => .imm 0x72 2 d n
  | .psradImm _ d n => .imm 0x72 4 d n
  | .pslldImm _ d n => .imm 0x72 6 d n
  | .psrlqImm _ d n => .imm 0x73 2 d n
  | .psllqImm _ d n => .imm 0x73 6 d n
  | .pcmpeqb _ d x => .modrm 0x74 d x
  | .pcmpeqw _ d x => .modrm 0x75 d x
  | .pcmpeqd _ d x => .modrm 0x76 d x
  | .emms _ => .bare 0x77
  | .movdStore _ d x => .modrm 0x7E d x
  | .movqStore _ d x => .modrm 0x7F d x
  | .cpuid _ => .bare 0xA2
  | .rsm _ => .bare 0xAA
  | .cmpxchg8b _ x => .modrm 0xC7 1 x
  | .psrlw _ d x => .modrm 0xD1 d x
  | .psrld _ d x => .modrm 0xD2 d x
  | .psrlq _ d x => .modrm 0xD3 d x
  | .pmullw _ d x => .modrm 0xD5 d x
  | .psubusb _ d x => .modrm 0xD8 d x
  | .psubusw _ d x => .modrm 0xD9 d x
  | .pand _ d x => .modrm 0xDB d x
  | .paddusb _ d x => .modrm 0xDC d x
  | .paddusw _ d x => .modrm 0xDD d x
  | .pandn _ d x => .modrm 0xDF d x
  | .psraw _ d x => .modrm 0xE1 d x
  | .psrad _ d x => .modrm 0xE2 d x
  | .pmulhw _ d x => .modrm 0xE5 d x
  | .psubsb _ d x => .modrm 0xE8 d x
  | .psubsw _ d x => .modrm 0xE9 d x
  | .por _ d x => .modrm 0xEB d x
  | .paddsb _ d x => .modrm 0xEC d x
  | .paddsw _ d x => .modrm 0xED d x
  | .pxor _ d x => .modrm 0xEF d x
  | .psllw _ d x => .modrm 0xF1 d x
  | .pslld _ d x => .modrm 0xF2 d x
  | .psllq _ d x => .modrm 0xF3 d x
  | .pmaddwd _ d x => .modrm 0xF5 d x
  | .psubb _ d x => .modrm 0xF8 d x
  | .psubw _ d x => .modrm 0xF9 d x
  | .psubd _ d x => .modrm 0xFA d x
  | .paddb _ d x => .modrm 0xFC d x
  | .paddw _ d x => .modrm 0xFD d x
  | .paddd _ d x => .modrm 0xFE d x
  | .fcmovb _ i => .stack 0xDA 0 i
  | .fcmove _ i => .stack 0xDA 1 i
  | .fcmovbe _ i => .stack 0xDA 2 i
  | .fcmovu _ i => .stack 0xDA 3 i
  | .fcmovnb _ i => .stack 0xDB 0 i
  | .fcmovne _ i => .stack 0xDB 1 i
  | .fcmovnbe _ i => .stack 0xDB 2 i
  | .fcmovnu _ i => .stack 0xDB 3 i
  | .fucomi _ i => .stack 0xDB 5 i
  | .fcomi _ i => .stack 0xDB 6 i
  | .fucomip _ i => .stack 0xDF 5 i
  | .fcomip _ i => .stack 0xDF 6 i

/-- The bytes of a 16-bit word, the lower first. -/
def bytes16 (v : Word16) : List Byte := [byteOf 16 v 0, byteOf 16 v 1]

/-- The bytes of a doubleword, the lowest first. -/
def bytes32 (v : Dword) : List Byte := [byteOf 32 v 0, byteOf 32 v 1, byteOf 32 v 2, byteOf 32 v 3]

/-- The `mod` value and the bytes of a displacement, 16-bit forms. -/
def Disp16.mod : Disp16 → BitVec 2
  | .none => 0
  | .d8 _ => 1
  | .d16 _ => 2

def Disp16.bytes : Disp16 → List Byte
  | .none => []
  | .d8 d => [d]
  | .d16 d => bytes16 d

/-- The same of the 32-bit forms. -/
def Disp32.mod : Disp32 → BitVec 2
  | .none => 0
  | .d8 _ => 1
  | .d32 _ => 2

def Disp32.bytes : Disp32 → List Byte
  | .none => []
  | .d8 d => [d]
  | .d32 d => bytes32 d

/-- ModR/M, SIB and displacement of a memory form with this `reg` field (30_encoding R150, R151, R153). -/
def Mem.encode (reg : RegNum) : Mem → List Byte
  | .based16 rm disp => fieldByte disp.mod reg rm :: disp.bytes
  | .abs16 d => fieldByte 0 reg 6 :: bytes16 d
  | .based32 base disp => fieldByte disp.mod reg base :: disp.bytes
  | .abs32 d => fieldByte 0 reg 5 :: bytes32 d
  | .sib scale index base disp => fieldByte disp.mod reg 4 :: fieldByte scale index base :: disp.bytes
  | .sibNoBase scale index d => fieldByte 0 reg 4 :: fieldByte scale index 5 :: bytes32 d

/-- ModR/M, SIB and displacement of an operand with this `reg` field. -/
def Rm.encode (reg : RegNum) : Rm → List Byte
  | .reg r => [fieldByte 3 reg r]
  | .mem m => m.encode reg

/-- The bytes from the opcode on. -/
def Shape.encode : Shape → List Byte
  | .bare op => [0x0F, op]
  | .modrm op reg x => 0x0F :: op :: x.encode reg
  | .imm op digit d n => [0x0F, op, fieldByte 3 digit d, n]
  | .stack esc reg i => [esc, fieldByte 3 reg i]

/-- The bytes of an instruction in ascending memory order (30_encoding R140). -/
def encode (i : Instr) : List Byte :=
  i.parts.1.map Pfx.byte ++ i.shape.encode

end Sys2Proof
end

