-- ==== Sys2Proof/Machine/Fetch.lean ====
section
/-! DEFINITION. Fetching an instruction's bytes at CS:EIP (10_state R21, 20_memory R81, 30_encoding R154). -/

namespace Sys2Proof.Machine

/-- The byte at CS:EIP + `k`: beyond the CS limit #GP(0), on a failed translation #PF (30_encoding R154). -/
def State.fetchByte (s : State) (k : Nat) : Res Byte :=
  (s.segAddrs .cs (s.eip + BitVec.ofNat 32 k) 1 (s.access false)).bind fun as s =>
    (s.readPhys as).bind fun bs s => .ok (bs.headD blankByte) s

/-- Fetch and decode byte by byte, so that no byte past the instruction is touched; an instruction that would take more
than `fuel` bytes raises #GP(0) (log 26). -/
def fetchFrom : Nat → State → List Byte → Res Decoded
  | 0, _, _ => .exn .gp
  | fuel + 1, s, got =>
    (s.fetchByte got.length).bind fun b s =>
      match decode s.bigCode (got ++ [b]) with
      | .needMore => fetchFrom fuel s (got ++ [b])
      | .invalid => .ok .invalid s
      | .outside op => .ok (.outside op) s
      | .base p b len => .ok (.base p b len) s
      | .instr i => .ok (.instr i) s

/-- The instruction at CS:EIP, of at most 15 bytes (30_encoding R140). -/
def State.fetch (s : State) : Res Decoded := fetchFrom 15 s []

/-- Where the bytes of the next instruction are, for a program placed from outside (log 46): 15 physical addresses from
CS:EIP on, or none when a translation fails. -/
def State.fetchAddrs (s : State) : List Nat :=
  match s.linAddrs (s.lin .cs s.eip) 15 (s.access false) with
  | .ok as _ => as
  | .exn _ => []
  | .stop _ => []

/-- These bytes placed where the next instruction is fetched, and no event before it. -/
def State.placeBytes (s : State) (bs : List Byte) : State :=
  { s.setPhysMem (writeBytes s.physMem (s.fetchAddrs.zip bs)) with
    inputs := []
    smiLatched := false
    nmiLatched := false
    intrLine := none
    stepTrap := false
    halted := false
    shutdown := false }

end Sys2Proof.Machine
end

