-- ==== Sys2Proof/Machine/Step.lean ====
section
/-! DEFINITION. One step of the machine: an input of the host, a pending event, or one instruction. -/

namespace Sys2Proof.Machine

/-- Run what was fetched: an instruction of the opcode table, a described base instruction, #UD, or a refusal of the
base machine's opcode (93 U28). -/
def runDecoded (d : Decoded) (s : State) : Host.Outcome State Fault Refusal :=
  match d with
  | .instr i => exec i s
  | .base p b len => execBase p b len s
  | .invalid => takeException .ud s
  | .outside op => .refused (.baseInstruction op)
  | .needMore => takeException .gp s

/-- An instruction begins: with EFLAGS.TF set a single step is pending at the next boundary, unless the instruction raises
an exception or interrupt (60 R592, log 62). -/
def State.begun (s : State) : State := { s with stepTrap := s.flag bitTF }

/-- Fetch at CS:EIP and run (20_memory R129, 92_eei D12). -/
def fetchRun (s : State) : Host.Outcome State Fault Refusal :=
  match s.fetch with
  | .ok d t => runDecoded d t.begun
  | .exn e => takeException e s
  | .stop x => x.outcome

/-- An instruction boundary: a pending event, else the next instruction; then time passes. -/
def boundary (s : State) : Host.Outcome State Fault Refusal :=
  ticked s
    (match pendingEvent s with
    | some o => o
    | none => fetchRun s)

/-- One step: the host's next input is taken in, then the boundary (60 R512, R513). RESET# leaves the reset state and
nothing else happens in that step (70_reset R601). -/
def step (s : State) : Host.Outcome State Fault Refusal :=
  match s.inputs with
  | [] => boundary s
  | none :: t => boundary { s with inputs := t }
  | some .reset :: t => .next (State.resetBy { s with inputs := t })
  | some i :: t => boundary (State.absorb { s with inputs := t } i)

/-- `s` with one instruction, given as spec/opcode_table.json numbers its bits, stored where `step` fetches next and no
event pending before it (log 46). -/
def State.withFetchWord (s : State) (nbits w : Nat) : State := s.placeBytes (tableBytes nbits w)

end Sys2Proof.Machine
end

