-- ==== Sys2Proof/Safety.lean ====
section
/-! DEFINITION. The terms claims use: what a safe state is, when each family of instructions runs, what an access leaves
unchanged. -/

namespace Sys2Proof.Machine

/-! ## The invariant -/

/-- What every step keeps: both memories in canonical form (log 4), the fixed bits of EFLAGS as 10_state R23 says, the
reserved bits of CR4 (10_state R38, R39) and of CESR (10_state R46, 46 R363) clear, and on P5 SMBASE a multiple of 32 KB
(10_state R47). -/
structure Inv (s : State) : Prop where
  mem : Memory.wf s.mem
  smram : Memory.wf s.smram
  eflags : eflagsOk s.eflags = true
  cr4 : s.cr4 &&& cr4Reserved s.cfg = 0
  cesr : (s.cesr.setWidth 64 : Qword) &&& ~~~ cesrMask = 0
  smbase : smbaseAlignCheck s.cfg = true → s.smbase.toNat % 0x8000 = 0

/-! ## When an instruction runs -/

/-- An MMX instruction with these bytes before its opcode passes steps 1 to 4 of 40 R200. -/
def mmxRuns (s : State) (p : List Pfx) : Prop :=
  locked p = false ∧ s.cfg.mmx = true ∧ s.em = false ∧ s.ts = false ∧ s.fpuPending = false

/-- An FPU instruction of 47 R398 and R402 passes its checks, with no FPU exception pending. -/
def fpuRuns (s : State) (p : List Pfx) : Prop :=
  locked p = false ∧ hasCmov s.cfg = true ∧ s.em = false ∧ s.ts = false ∧ s.fpuPending = false

/-- Neither operand of an FPU instruction is an empty register (47 R398 step 3, R402 step 3). -/
def stackFull (s : State) (i : RegNum) : Prop := s.stEmpty 0 = false ∧ s.stEmpty i = false

/-- An MSR instruction passes steps 1 to 3 of 46 R360 and R362. -/
def msrRuns (s : State) : Prop := s.mode ≠ .v86 ∧ s.cplNow = 0 ∧ s.cfg.msrValid.contains (s.r32 rECX).toNat = true

/-! ## What an access leaves unchanged -/

/-- Memory changed at most by A and D bits of paging entries (20_memory R109, R117). -/
def marksOnly (m m' : Memory) : Prop :=
  ∀ a, ∃ b : Byte, (b = 0 ∨ b = 0x20 ∨ b = 0x40 ∨ b = 0x60) ∧ readByte m' a = readByte m a ||| b

/-- Translating addresses changed nothing but the remembered walks, the A and D bits and the index of free values; with
paging off it changed nothing. -/
structure PagingOnly (s t : State) : Prop where
  fields : t = { s with mem := t.mem, smram := t.smram, tlb := t.tlb, draws := t.draws }
  mem : Memory.wf s.mem → Memory.wf t.mem ∧ marksOnly s.mem t.mem
  smram : Memory.wf s.smram → Memory.wf t.smram ∧ marksOnly s.smram t.smram
  flat : s.pg = false → t = s

/-- The state after a completed MMX instruction that leaves `r` in register `d` (10_state R27, R29 to R31, 40 R200). -/
def mmxResult (s : State) (d : RegNum) (r : Qword) (len : Nat) : State :=
  { s with
    fpr := s.fpr.set d.toNat (0xFFFF#16 ++ r) d.isLt
    ftw := 0
    fsw := withTos s.fsw 0
    eip := s.eip + BitVec.ofNat 32 len }

/-- The state after an MMX instruction that only reads an MMX register (10_state R31). -/
def mmxReadOnly (s : State) (len : Nat) : State :=
  { s with ftw := 0, fsw := withTos s.fsw 0, eip := s.eip + BitVec.ofNat 32 len }

/-- The bytes of a store through these addresses; read-only memory keeps its own (log 19). -/
def storedCells (s : State) (as : List Nat) (bs : List Byte) : List (Nat × Byte) :=
  (as.zip bs).filter fun c => s.stores c.1

/-- Every address of a list is plain memory, so that a store changes it and a read answers the last byte written. -/
def allRam (s : State) (as : List Nat) : Prop := ∀ a ∈ as, s.kind a = .ram

/-! ## Delivery in the manner of real-address mode -/

/-- With paging off, the addresses of a 16-bit push that leaves SP at `o`. -/
def State.at16 (s : State) (o : Word16) : List Nat :=
  (List.range 2).map fun k => (linByte (s.lin .ss (o.setWidth 32)) k).toNat

/-- The six bytes of stack of a delivery in the manner of real-address mode: FLAGS highest, then CS, then IP. -/
def State.realStack (s : State) : List Nat :=
  s.at16 (s.r16 rESP - 2) ++ s.at16 (s.r16 rESP - 4) ++ s.at16 (s.r16 rESP - 6)

/-- The entry of a vector in the table at linear address 0 (20_memory R99). -/
def tableEntry (v : Byte) : List Nat := span (4 * v.toNat) 4

/-- With paging off, the pushes pass the segment checks, the stack is six bytes of plain memory, and the table entry is
readable and not part of it. -/
structure RealReady (s : State) (v : Byte) : Prop where
  flat : s.pg = false
  mem : Memory.wf s.physMem
  limit : ∀ o ∈ [s.r16 rESP - 2, s.r16 rESP - 4, s.r16 rESP - 6], s.segCheck .ss (o.setWidth 32) 2 true = none
  apart : s.realStack.Nodup
  ram : allRam s s.realStack
  entry : ∀ a ∈ tableEntry v, a ∉ s.realStack ∧ s.stopAt a = none

/-- `t` is `s`, where the raise side is recorded, after a delivery in the manner of real-address mode (60 R528, R566): the
three words pushed and no other byte of memory changed, CS:EIP from the table, IF and TF clear, nothing else changed. -/
structure RealDelivered (s t : State) (v : Byte) (flags ip : Word16) : Prop where
  sp : t.r16 rESP = s.r16 rESP - 6
  flagsWord : leValue 16 (readBytes t.physMem (s.at16 (s.r16 rESP - 2))) = flags
  csWord : leValue 16 (readBytes t.physMem (s.at16 (s.r16 rESP - 4))) = s.segs.cs.sel
  ipWord : leValue 16 (readBytes t.physMem (s.at16 (s.r16 rESP - 6))) = ip
  others : ∀ a, a ∉ s.realStack → readByte t.physMem a = readByte s.physMem a
  eip : t.eip = (leValue 16 (readBytes s.physMem ((tableEntry v).take 2)) : Word16).setWidth 32
  cs : t.segs.cs.sel = leValue 16 (readBytes s.physMem ((tableEntry v).drop 2))
  base : t.segs.cs.base = t.segs.cs.sel.setWidth 32 <<< 4
  flagIF : t.flag bitIF = false
  flagTF : t.flag bitTF = false
  flags : ∀ k, k ≠ bitIF → k ≠ bitTF → t.flag k = s.flag k
  espHigh : (t.r32 rESP).extractLsb' 16 16 = (s.r32 rESP).extractLsb' 16 16
  gpr : ∀ q, q ≠ rESP → t.r32 q = s.r32 q
  frame : t = { s.setPhysMem t.physMem with
    gpr := t.gpr, eip := t.eip, eflags := t.eflags
    segs := { s.segs with cs := { s.segs.cs with sel := t.segs.cs.sel, base := t.segs.cs.base } } }

/-! ## Delivery from virtual-8086 mode to privilege level 0 -/

/-- The bytes of the frame of 60 R532: nine doublewords, and one more for an error code. -/
def Cause.frameSize (c : Cause) : Nat := 36 + 4 * c.code.toList.length

/-- With paging off, the addresses of the frame: the bytes below the stack pointer of the gate. -/
def Gate.stack (g : Gate) (c : Cause) : List Nat :=
  (List.range c.frameSize).map fun k => (linByte (g.ss.base + (g.esp - BitVec.ofNat 32 c.frameSize)) k).toNat

/-- With paging off, the frame lies within the limit of the gate's stack, in plain memory. -/
structure Pl0Ready (s : State) (g : Gate) (c : Cause) : Prop where
  flat : s.pg = false
  mem : Memory.wf s.physMem
  limit : (g.esp - BitVec.ofNat 32 c.frameSize).toNat + c.frameSize - 1 ≤ g.ss.limit.toNat
  ram : allRam s (g.stack c)

/-- `t` is `s` after a delivery to privilege level 0 through gate `g` (60 R532): the error code, EIP, CS, the EFLAGS image,
ESP, SS, ES, DS, FS and GS stand on its stack from the lowest address up (the selectors extended with zeros, log 8) and no
other byte of memory changed; the data selectors are 0, VM = 0, CPL 0, TF, IF, NT and RF the gate's (log 8), and nothing
else changed. -/
structure Pl0Delivered (s t : State) (g : Gate) (c : Cause) (savedEip image : Dword) : Prop where
  stack : readBytes t.physMem (g.stack c) =
    (c.code.toList ++ [savedEip, s.segs.cs.sel.setWidth 32, image, s.r32 rESP, s.segs.ss.sel.setWidth 32,
      s.segs.es.sel.setWidth 32, s.segs.ds.sel.setWidth 32, s.segs.fs.sel.setWidth 32,
      s.segs.gs.sel.setWidth 32]).flatMap (leBytes 4)
  others : ∀ a, a ∉ g.stack c → readByte t.physMem a = readByte s.physMem a
  esp : t.r32 rESP = g.esp - BitVec.ofNat 32 c.frameSize
  gpr : ∀ q, q ≠ rESP → t.r32 q = s.r32 q
  segs : t.segs = { es := { s.segs.es with sel := 0 }, cs := g.cs, ss := g.ss, ds := { s.segs.ds with sel := 0 },
                    fs := { s.segs.fs with sel := 0 }, gs := { s.segs.gs with sel := 0 } }
  flagVM : t.flag bitVM = false
  gateFlags : ∀ k ∈ [8, 9, 14, 16], t.flag k = g.flags.getLsbD k
  flags : ∀ k, k ∉ [8, 9, 14, 16, bitVM] → t.flag k = s.flag k
  mode : t.mode = .prot ∧ t.cplNow = 0
  frame : t = { s.setPhysMem t.physMem with
    gpr := t.gpr, eip := g.eip, eflags := t.eflags, segs := t.segs, cpl := 0 }

/-! ## The shapes claims are stated in -/

/-- An outcome of a step. -/
abbrev Outcome := Host.Outcome State Fault Refusal

/-- The instruction completes from `t`, the state after its source was read, leaving in MMX register `d` a value that
meets `P` and nothing else changed but the tag word, TOS and EIP. -/
def Leaves (o : Outcome) (t : State) (d : RegNum) (len : Nat) (P : Qword → Prop) : Prop :=
  ∃ r, o = .next (mmxResult t d r len) ∧ P r

/-- An MMX instruction `mm, mm/m64`, `mm, mm/m32` or MOVD, MOVQ (30_encoding R164). -/
def isMmx (i : Instr) : Bool :=
  match i.shape with
  | .bare op => op == 0x77
  | .modrm op _ _ => 0x60 ≤ op && op != 0xC7
  | .imm _ _ _ _ => true
  | .stack _ _ _ => false

/-- The integer clamped to a range (00_scope R10). -/
def clampInt (lo hi i : Int) : Int := max lo (min hi i)

/-- The number an 80-bit register holds, times 2^16446: sign, significand and exponent of 47 R407 (a denormal has the
scale of exponent 1, infinity stands for 2^63 at exponent 7FFFh). -/
def realValue (v : FpuReg) : Int :=
  (if v.getLsbD 79 then -1 else 1) * ((significand v * 2 ^ max (exponent v) 1 : Nat) : Int)

/-- Neither a NaN nor an unsupported format (47 R407). -/
def isOrdered (v : FpuReg) : Prop := isNan v = false ∧ unsupported v = false

end Sys2Proof.Machine
end

