-- ==== Sys2Proof/Certificates/Slice0/Obligations.lean ====
section
/-! DEFINITION. The statements for the provers. `p` holds the bytes before an opcode, `t` is the state after a memory
source was read: it differs from `s` as `PagingOnly` says (remembered walks, A and D bits; nothing with paging off). -/

open Sys2Proof Sys2Proof.Machine

/-! ## MMX arithmetic -/

/-- PADDB, PADDW, PADDD, PSUBB, PSUBW, PSUBD: every lane is the sum, or destination minus source, modulo its width (40
R201 to R203, R211 to R213), in the frame of 40 R200. -/
def Obligations.WraparoundSums : Prop :=
  ∀ (p : List Pfx) (d : RegNum) (x : Rm) (s t : State) (v : Qword), mmxRuns s p → s.srcMm p x 8 = .ok v t →
    PagingOnly s t ∧
    Leaves (exec (.paddb p d x) s) t d (rmLength p x) (fun r => ∀ k < 8, laneB r k = laneB (s.mm d) k + laneB v k) ∧
    Leaves (exec (.paddw p d x) s) t d (rmLength p x) (fun r => ∀ k < 4, laneW r k = laneW (s.mm d) k + laneW v k) ∧
    Leaves (exec (.paddd p d x) s) t d (rmLength p x) (fun r => ∀ k < 2, laneD r k = laneD (s.mm d) k + laneD v k) ∧
    Leaves (exec (.psubb p d x) s) t d (rmLength p x) (fun r => ∀ k < 8, laneB r k = laneB (s.mm d) k - laneB v k) ∧
    Leaves (exec (.psubw p d x) s) t d (rmLength p x) (fun r => ∀ k < 4, laneW r k = laneW (s.mm d) k - laneW v k) ∧
    Leaves (exec (.psubd p d x) s) t d (rmLength p x) (fun r => ∀ k < 2, laneD r k = laneD (s.mm d) k - laneD v k)

/-- PADDSB, PADDSW, PSUBSB, PSUBSW: the exact signed result clamped to the signed range (40 R205, R206, R215, R216). -/
def Obligations.SaturateSigned : Prop :=
  ∀ (p : List Pfx) (d : RegNum) (x : Rm) (s t : State) (v : Qword), mmxRuns s p → s.srcMm p x 8 = .ok v t →
    PagingOnly s t ∧
    Leaves (exec (.paddsb p d x) s) t d (rmLength p x) (fun r => ∀ k < 8,
      (laneB r k).toInt = clampInt (-128) 127 ((laneB (s.mm d) k).toInt + (laneB v k).toInt)) ∧
    Leaves (exec (.paddsw p d x) s) t d (rmLength p x) (fun r => ∀ k < 4,
      (laneW r k).toInt = clampInt (-32768) 32767 ((laneW (s.mm d) k).toInt + (laneW v k).toInt)) ∧
    Leaves (exec (.psubsb p d x) s) t d (rmLength p x) (fun r => ∀ k < 8,
      (laneB r k).toInt = clampInt (-128) 127 ((laneB (s.mm d) k).toInt - (laneB v k).toInt)) ∧
    Leaves (exec (.psubsw p d x) s) t d (rmLength p x) (fun r => ∀ k < 4,
      (laneW r k).toInt = clampInt (-32768) 32767 ((laneW (s.mm d) k).toInt - (laneW v k).toInt))

/-- PADDUSB, PADDUSW, PSUBUSB, PSUBUSW: the exact unsigned result clamped to the unsigned range (40 R207, R208, R217,
R218); the subtractions on natural numbers stop at 0. -/
def Obligations.SaturateUnsigned : Prop :=
  ∀ (p : List Pfx) (d : RegNum) (x : Rm) (s t : State) (v : Qword), mmxRuns s p → s.srcMm p x 8 = .ok v t →
    PagingOnly s t ∧
    Leaves (exec (.paddusb p d x) s) t d (rmLength p x) (fun r => ∀ k < 8,
      (laneB r k).toNat = min 255 ((laneB (s.mm d) k).toNat + (laneB v k).toNat)) ∧
    Leaves (exec (.paddusw p d x) s) t d (rmLength p x) (fun r => ∀ k < 4,
      (laneW r k).toNat = min 65535 ((laneW (s.mm d) k).toNat + (laneW v k).toNat)) ∧
    Leaves (exec (.psubusb p d x) s) t d (rmLength p x) (fun r => ∀ k < 8,
      (laneB r k).toNat = (laneB (s.mm d) k).toNat - (laneB v k).toNat) ∧
    Leaves (exec (.psubusw p d x) s) t d (rmLength p x) (fun r => ∀ k < 4,
      (laneW r k).toNat = (laneW (s.mm d) k).toNat - (laneW v k).toNat)

/-- PMULHW, PMULLW, PMADDWD (40 R221 to R223): the floor of the exact product by 2^16, the product modulo 2^16, and the
sum of the two adjacent exact products modulo 2^32. -/
def Obligations.MultiplyExactProducts : Prop :=
  ∀ (p : List Pfx) (d : RegNum) (x : Rm) (s t : State) (v : Qword), mmxRuns s p → s.srcMm p x 8 = .ok v t →
    PagingOnly s t ∧
    Leaves (exec (.pmulhw p d x) s) t d (rmLength p x) (fun r => ∀ k < 4,
      (laneW r k).toInt = ((laneW (s.mm d) k).toInt * (laneW v k).toInt).fdiv 65536) ∧
    Leaves (exec (.pmullw p d x) s) t d (rmLength p x) (fun r => ∀ k < 4,
      laneW r k = laneW (s.mm d) k * laneW v k) ∧
    Leaves (exec (.pmaddwd p d x) s) t d (rmLength p x) (fun r => ∀ j < 2,
      laneD r j = (laneW (s.mm d) (2 * j)).signExtend 32 * (laneW v (2 * j)).signExtend 32
        + (laneW (s.mm d) (2 * j + 1)).signExtend 32 * (laneW v (2 * j + 1)).signExtend 32)

/-! ## MMX comparison, conversion, logic -/

/-- PCMPEQB, PCMPEQW, PCMPEQD, PCMPGTB, PCMPGTW, PCMPGTD: a lane becomes ones where the lanes agree, or where the signed
destination lane is greater than the source lane, else zeros (41 R240 to R247). -/
def Obligations.LaneCompare : Prop :=
  ∀ (p : List Pfx) (d : RegNum) (x : Rm) (s t : State) (v : Qword), mmxRuns s p → s.srcMm p x 8 = .ok v t →
    PagingOnly s t ∧
    Leaves (exec (.pcmpeqb p d x) s) t d (rmLength p x) (fun r => ∀ k < 8,
      laneB r k = if laneB (s.mm d) k = laneB v k then 0xFF else 0) ∧
    Leaves (exec (.pcmpeqw p d x) s) t d (rmLength p x) (fun r => ∀ k < 4,
      laneW r k = if laneW (s.mm d) k = laneW v k then 0xFFFF else 0) ∧
    Leaves (exec (.pcmpeqd p d x) s) t d (rmLength p x) (fun r => ∀ k < 2,
      laneD r k = if laneD (s.mm d) k = laneD v k then 0xFFFFFFFF else 0) ∧
    Leaves (exec (.pcmpgtb p d x) s) t d (rmLength p x) (fun r => ∀ k < 8,
      laneB r k = if (laneB (s.mm d) k).toInt > (laneB v k).toInt then 0xFF else 0) ∧
    Leaves (exec (.pcmpgtw p d x) s) t d (rmLength p x) (fun r => ∀ k < 4,
      laneW r k = if (laneW (s.mm d) k).toInt > (laneW v k).toInt then 0xFFFF else 0) ∧
    Leaves (exec (.pcmpgtd p d x) s) t d (rmLength p x) (fun r => ∀ k < 2,
      laneD r k = if (laneD (s.mm d) k).toInt > (laneD v k).toInt then 0xFFFFFFFF else 0)

/-- PACKSSWB, PACKSSDW, PACKUSWB: the old destination's elements fill the low half, the source's the high half, each
clamped (42 R260 to R263). -/
def Obligations.PackSaturates : Prop :=
  ∀ (p : List Pfx) (d : RegNum) (x : Rm) (s t : State) (v : Qword), mmxRuns s p → s.srcMm p x 8 = .ok v t →
    PagingOnly s t ∧
    Leaves (exec (.packsswb p d x) s) t d (rmLength p x) (fun r => ∀ k < 4,
      (laneB r k).toInt = clampInt (-128) 127 (laneW (s.mm d) k).toInt ∧
      (laneB r (k + 4)).toInt = clampInt (-128) 127 (laneW v k).toInt) ∧
    Leaves (exec (.packssdw p d x) s) t d (rmLength p x) (fun r => ∀ k < 2,
      (laneW r k).toInt = clampInt (-32768) 32767 (laneD (s.mm d) k).toInt ∧
      (laneW r (k + 2)).toInt = clampInt (-32768) 32767 (laneD v k).toInt) ∧
    Leaves (exec (.packuswb p d x) s) t d (rmLength p x) (fun r => ∀ k < 4,
      ((laneB r k).toNat : Int) = clampInt 0 255 (laneW (s.mm d) k).toInt ∧
      ((laneB r (k + 4)).toNat : Int) = clampInt 0 255 (laneW v k).toInt)

/-- PUNPCKHBW, PUNPCKHWD, PUNPCKHDQ: the upper elements interleaved, destination first; a memory source is 8 bytes
(42 R270 to R273). -/
def Obligations.UnpackHigh : Prop :=
  ∀ (p : List Pfx) (d : RegNum) (x : Rm) (s t : State) (v : Qword), mmxRuns s p → s.srcMm p x 8 = .ok v t →
    PagingOnly s t ∧
    Leaves (exec (.punpckhbw p d x) s) t d (rmLength p x) (fun r => ∀ j < 4,
      laneB r (2 * j) = laneB (s.mm d) (4 + j) ∧ laneB r (2 * j + 1) = laneB v (4 + j)) ∧
    Leaves (exec (.punpckhwd p d x) s) t d (rmLength p x) (fun r => ∀ j < 2,
      laneW r (2 * j) = laneW (s.mm d) (2 + j) ∧ laneW r (2 * j + 1) = laneW v (2 + j)) ∧
    Leaves (exec (.punpckhdq p d x) s) t d (rmLength p x) (fun r =>
      laneD r 0 = laneD (s.mm d) 1 ∧ laneD r 1 = laneD v 1)

/-- PUNPCKLBW, PUNPCKLWD, PUNPCKLDQ: the lower elements interleaved, destination first; a memory source is 4 bytes
(42 R274 to R277). -/
def Obligations.UnpackLow : Prop :=
  ∀ (p : List Pfx) (d : RegNum) (x : Rm) (s t : State) (v : Qword), mmxRuns s p → s.srcMm p x 4 = .ok v t →
    PagingOnly s t ∧
    Leaves (exec (.punpcklbw p d x) s) t d (rmLength p x) (fun r => ∀ j < 4,
      laneB r (2 * j) = laneB (s.mm d) j ∧ laneB r (2 * j + 1) = laneB v j) ∧
    Leaves (exec (.punpcklwd p d x) s) t d (rmLength p x) (fun r => ∀ j < 2,
      laneW r (2 * j) = laneW (s.mm d) j ∧ laneW r (2 * j + 1) = laneW v j) ∧
    Leaves (exec (.punpckldq p d x) s) t d (rmLength p x) (fun r =>
      laneD r 0 = laneD (s.mm d) 0 ∧ laneD r 1 = laneD v 0)

/-- PAND, PANDN, POR, PXOR: bit by bit; PANDN complements the destination (43 R290 to R294). -/
def Obligations.LogicalBitwise : Prop :=
  ∀ (p : List Pfx) (d : RegNum) (x : Rm) (s t : State) (v : Qword), mmxRuns s p → s.srcMm p x 8 = .ok v t →
    PagingOnly s t ∧
    Leaves (exec (.pand p d x) s) t d (rmLength p x) (fun r => ∀ i < 64,
      r.getLsbD i = ((s.mm d).getLsbD i && v.getLsbD i)) ∧
    Leaves (exec (.pandn p d x) s) t d (rmLength p x) (fun r => ∀ i < 64,
      r.getLsbD i = (!(s.mm d).getLsbD i && v.getLsbD i)) ∧
    Leaves (exec (.por p d x) s) t d (rmLength p x) (fun r => ∀ i < 64,
      r.getLsbD i = ((s.mm d).getLsbD i || v.getLsbD i)) ∧
    Leaves (exec (.pxor p d x) s) t d (rmLength p x) (fun r => ∀ i < 64,
      r.getLsbD i = ((s.mm d).getLsbD i != v.getLsbD i))

/-! ## MMX shifts -/

/-- PSLLW, PSLLD, PSLLQ, PSRLW, PSRLD, PSRLQ by register or memory: every lane shifted by the whole quadword, so that a
count past the lane gives 0 (44 R300 to R313). -/
def Obligations.ShiftLogical : Prop :=
  ∀ (p : List Pfx) (d : RegNum) (x : Rm) (s t : State) (v : Qword), mmxRuns s p → s.srcMm p x 8 = .ok v t →
    PagingOnly s t ∧
    Leaves (exec (.psllw p d x) s) t d (rmLength p x) (fun r => ∀ k < 4,
      laneW r k = laneW (s.mm d) k <<< v.toNat ∧ (v.toNat > 15 → laneW r k = 0)) ∧
    Leaves (exec (.pslld p d x) s) t d (rmLength p x) (fun r => ∀ k < 2,
      laneD r k = laneD (s.mm d) k <<< v.toNat ∧ (v.toNat > 31 → laneD r k = 0)) ∧
    Leaves (exec (.psllq p d x) s) t d (rmLength p x) (fun r => r = s.mm d <<< v.toNat ∧ (v.toNat > 63 → r = 0)) ∧
    Leaves (exec (.psrlw p d x) s) t d (rmLength p x) (fun r => ∀ k < 4,
      laneW r k = laneW (s.mm d) k >>> v.toNat ∧ (v.toNat > 15 → laneW r k = 0)) ∧
    Leaves (exec (.psrld p d x) s) t d (rmLength p x) (fun r => ∀ k < 2,
      laneD r k = laneD (s.mm d) k >>> v.toNat ∧ (v.toNat > 31 → laneD r k = 0)) ∧
    Leaves (exec (.psrlq p d x) s) t d (rmLength p x) (fun r => r = s.mm d >>> v.toNat ∧ (v.toNat > 63 → r = 0))

/-- PSRAW, PSRAD by register or memory: an arithmetic right shift of every lane; past the lane every bit is the sign
(44 R320 to R322). -/
def Obligations.ShiftArithmetic : Prop :=
  ∀ (p : List Pfx) (d : RegNum) (x : Rm) (s t : State) (v : Qword), mmxRuns s p → s.srcMm p x 8 = .ok v t →
    PagingOnly s t ∧
    Leaves (exec (.psraw p d x) s) t d (rmLength p x) (fun r => ∀ k < 4, ∀ i < 16,
      (laneW r k).getLsbD i = (laneW (s.mm d) k).getLsbD (min (i + v.toNat) 15)) ∧
    Leaves (exec (.psrad p d x) s) t d (rmLength p x) (fun r => ∀ k < 2, ∀ i < 32,
      (laneD r k).getLsbD i = (laneD (s.mm d) k).getLsbD (min (i + v.toNat) 31))

/-- The eight shifts by an immediate byte, read unsigned; the shifted register is the `r/m` field (44 R300 to R322). -/
def Obligations.ShiftImmediate : Prop :=
  ∀ (p : List Pfx) (d : RegNum) (n : Byte) (s : State), mmxRuns s p →
    Leaves (exec (.psllwImm p d n) s) s d (p.length + 4) (fun r => ∀ k < 4, laneW r k = laneW (s.mm d) k <<< n.toNat) ∧
    Leaves (exec (.pslldImm p d n) s) s d (p.length + 4) (fun r => ∀ k < 2, laneD r k = laneD (s.mm d) k <<< n.toNat) ∧
    Leaves (exec (.psllqImm p d n) s) s d (p.length + 4) (fun r => r = s.mm d <<< n.toNat) ∧
    Leaves (exec (.psrlwImm p d n) s) s d (p.length + 4) (fun r => ∀ k < 4, laneW r k = laneW (s.mm d) k >>> n.toNat) ∧
    Leaves (exec (.psrldImm p d n) s) s d (p.length + 4) (fun r => ∀ k < 2, laneD r k = laneD (s.mm d) k >>> n.toNat) ∧
    Leaves (exec (.psrlqImm p d n) s) s d (p.length + 4) (fun r => r = s.mm d >>> n.toNat) ∧
    Leaves (exec (.psrawImm p d n) s) s d (p.length + 4) (fun r => ∀ k < 4, ∀ i < 16,
      (laneW r k).getLsbD i = (laneW (s.mm d) k).getLsbD (min (i + n.toNat) 15)) ∧
    Leaves (exec (.psradImm p d n) s) s d (p.length + 4) (fun r => ∀ k < 2, ∀ i < 32,
      (laneD r k).getLsbD i = (laneD (s.mm d) k).getLsbD (min (i + n.toNat) 31))

/-! ## MMX transfers and EMMS -/

/-- MOVD mm, r/m32 zero-extends its 4-byte source (45 R331); MOVQ mm, mm/m64 copies its 8-byte source (45 R333). -/
def Obligations.MmxLoad : Prop :=
  ∀ (p : List Pfx) (d : RegNum) (x : Rm) (s : State), mmxRuns s p →
    (∀ (t : State) (v : Dword), s.src32 p x = .ok v t → PagingOnly s t ∧
      Leaves (exec (.movdLoad p d x) s) t d (rmLength p x) (fun r => laneD r 0 = v ∧ laneD r 1 = 0)) ∧
    (∀ (t : State) (v : Qword), s.srcMm p x 8 = .ok v t → PagingOnly s t ∧
      Leaves (exec (.movqLoad p d x) s) t d (rmLength p x) (fun r => r = v))

/-- MOVD r32, mm writes the low doubleword to a general register and MOVQ mm, mm the whole register to another; the
source register is only read (45 R332, R334, 10_state R31). -/
def Obligations.MmxStoreRegister : Prop :=
  ∀ (p : List Pfx) (d r : RegNum) (s : State), mmxRuns s p →
    (∃ u, exec (.movdStore p d (.reg r)) s = .next u ∧ u.r32 r = laneD (s.mm d) 0 ∧
      (∀ q, q ≠ r → u.r32 q = s.r32 q) ∧ u = { mmxReadOnly s (p.length + 3) with gpr := u.gpr }) ∧
    Leaves (exec (.movqStore p d (.reg r)) s) s r (p.length + 3) (fun w => w = s.mm d)

/-- MOVD m32, mm and MOVQ m64, mm with a memory destination (45 R332, R334): for the addresses `operandAddrs` gives for a
write of 4 or 8 bytes, the instruction completes; a byte at any other address reads as before, the destination reads
back the stored value where it is plain memory, and nothing else changes, no other memory space among it, but the tag
word, TOS and EIP. -/
def Obligations.MmxStoreMemory : Prop :=
  ∀ (p : List Pfx) (d : RegNum) (m : Mem) (s : State), mmxRuns s p → Memory.wf s.physMem →
    (∀ (as : List Nat) (t : State), s.operandAddrs (operandSeg p m) (s.ea m) 4 true = .ok as t →
      (∀ a ∈ as, t.stopAt a = none) → PagingOnly s t ∧
      ∃ u, exec (.movdStore p d (.mem m)) s = .next u ∧
        (∀ a, a ∉ as → readByte u.physMem a = readByte t.physMem a) ∧
        (as.Nodup → allRam t as → leValue 32 (readBytes u.physMem as) = laneD (s.mm d) 0) ∧
        u = (mmxReadOnly t (p.length + 3 + m.size)).setPhysMem u.physMem) ∧
    (∀ (as : List Nat) (t : State), s.operandAddrs (operandSeg p m) (s.ea m) 8 true = .ok as t →
      (∀ a ∈ as, t.stopAt a = none) → PagingOnly s t ∧
      ∃ u, exec (.movqStore p d (.mem m)) s = .next u ∧
        (∀ a, a ∉ as → readByte u.physMem a = readByte t.physMem a) ∧
        (as.Nodup → allRam t as → leValue 64 (readBytes u.physMem as) = s.mm d) ∧
        u = (mmxReadOnly t (p.length + 3 + m.size)).setPhysMem u.physMem)

/-- A MOVQ store and a MOVD load see the same bytes (20_memory R82): with paging off and plain memory, MOVD from the
stored address loads bits 31:0 and from four bytes above it bits 63:32. -/
def Obligations.StoreThenLoad : Prop :=
  ∀ (p q : List Pfx) (d e : RegNum) (m m' : Mem) (s u w : State), Memory.wf s.physMem → s.pg = false →
    (∀ a, s.kind a = .ram) → operandSeg q m' = operandSeg p m → mmxRuns s p →
    (∃ as, s.operandAddrs (operandSeg p m) (s.ea m) 8 true = .ok as s) → exec (.movqStore p d (.mem m)) s = .next u →
    mmxRuns u q → (∃ v t, u.src32 q (.mem m') = .ok v t) → exec (.movdLoad q e (.mem m')) u = .next w →
    (s.ea m' = s.ea m → w.mm e = (laneD (s.mm d) 0).setWidth 64) ∧
    (s.ea m' = s.ea m + 4 → w.mm e = (laneD (s.mm d) 1).setWidth 64)

/-- EMMS: every tag empty, TOS 000, no data register and no memory changed (45 R330). Before it #UD, #NM and #MF in the order
of 92_eei D5 (40 R200, log 25), and #MF whatever CR0.NE says (92_eei D17, log 44): both the spec's and the model's choice. -/
def Obligations.EmmsEmptiesTags : Prop :=
  ∀ (p : List Pfx) (s : State), s.cfg.mmx = true →
    ((locked p = true ∨ s.em = true) → exec (.emms p) s = takeException .ud s) ∧
    (locked p = false → s.em = false → s.ts = true → exec (.emms p) s = takeException .nm s) ∧
    (locked p = false → s.em = false → s.ts = false → s.fpuPending = true →
      exec (.emms p) s = takeException .mf s) ∧
    (mmxRuns s p → ∃ u, exec (.emms p) s = .next u ∧ (∀ k, u.tag k = 3) ∧ u.tos = 0 ∧
      (∀ i, (i < 11 ∨ 14 ≤ i) → u.fsw.getLsbD i = s.fsw.getLsbD i) ∧
      u = { s with ftw := u.ftw, fsw := u.fsw, eip := s.eip + BitVec.ofNat 32 (p.length + 2) })

/-! ## MMX checks -/

/-- Every MMX instruction tests LOCK, the feature and CR0.EM, then CR0.TS, then a pending FPU exception, before anything else
(40 R200, 44 R300, 45 R330 to R334, 60 R503 to R505, 30_encoding R162). Choices: the order is 92_eei D5 (log 25), #UD
without the feature is D13 (30_encoding R172, log 27), #MF in place of FERR# is D17 (log 44). -/
def Obligations.MmxChecks : Prop :=
  ∀ (i : Instr) (s : State), isMmx i = true →
    ((locked i.parts.1 = true ∨ s.cfg.mmx = false ∨ s.em = true) → exec i s = takeException .ud s) ∧
    (locked i.parts.1 = false → s.cfg.mmx = true → s.em = false → s.ts = true → exec i s = takeException .nm s) ∧
    (locked i.parts.1 = false → s.cfg.mmx = true → s.em = false → s.ts = false → s.fpuPending = true →
      exec i s = takeException .mf s)

/-- An MMX instruction whose memory operand fails a check takes that exception from the state it started in: nothing it
would have written is written (20_memory R91, 40 R204, 60 R506). Loads of 4 bytes: PUNPCKL and MOVD (20_memory R95). The
model's choice: the A bits and remembered walks of a page of the operand already translated are dropped too (log 21). -/
def Obligations.MmxOperandFaults : Prop :=
  ∀ (i : Instr) (op : Byte) (d : RegNum) (m : Mem) (e : Exn) (s : State), isMmx i = true →
    i.shape = .modrm op d (.mem m) → mmxRuns s i.parts.1 →
    s.operandAddrs (operandSeg i.parts.1 m) (s.ea m) (if op.toNat < 0x63 ∨ op = 0x6E ∨ op = 0x7E then 4 else 8)
      (op == 0x7E || op == 0x7F) = .exn e →
    exec i s = takeException e s

/-! ## CMOVcc -/

/-- The sixteen CMOVcc (47 R380 to R396), each with its condition on CF, PF, ZF, SF, OF: #UD with LOCK or without the
feature; the source is read, and its faults taken, whether or not the condition holds; then the 32-bit or 16-bit
destination is the source or stays, and nothing else changes but EIP. Choices: the read with a false condition is 92_eei
D7 (20_memory R97, log 43), #UD without the feature is D13 (log 27), a 16-bit write keeps the upper half (log 52), a fault
drops the A bits it set (log 21). -/
def Obligations.CmovMovesIfCondition : Prop :=
  ∀ c ∈ ([(.cmovo, fun _ _ _ _ o => o), (.cmovno, fun _ _ _ _ o => !o), (.cmovb, fun c _ _ _ _ => c),
      (.cmovae, fun c _ _ _ _ => !c), (.cmove, fun _ _ z _ _ => z), (.cmovne, fun _ _ z _ _ => !z),
      (.cmovbe, fun c _ z _ _ => c || z), (.cmova, fun c _ z _ _ => !c && !z), (.cmovs, fun _ _ _ s _ => s),
      (.cmovns, fun _ _ _ s _ => !s), (.cmovp, fun _ p _ _ _ => p), (.cmovnp, fun _ p _ _ _ => !p),
      (.cmovl, fun _ _ _ s o => s != o), (.cmovge, fun _ _ _ s o => s == o), (.cmovle, fun _ _ z s o => z || s != o),
      (.cmovg, fun _ _ z s o => !z && s == o)] :
      List ((List Pfx → RegNum → Rm → Instr) × (Bool → Bool → Bool → Bool → Bool → Bool))),
    ∀ (p : List Pfx) (d : RegNum) (x : Rm) (s : State),
      let holds := c.2 (s.flag bitCF) (s.flag bitPF) (s.flag bitZF) (s.flag bitSF) (s.flag bitOF)
      ((locked p = true ∨ hasCmov s.cfg = false) → exec (c.1 p d x) s = takeException .ud s) ∧
      (locked p = false → hasCmov s.cfg = true → s.wideOperand p = true →
        (∀ e, s.src32 p x = .exn e → exec (c.1 p d x) s = takeException e s) ∧
        (∀ v t, s.src32 p x = .ok v t → PagingOnly s t ∧ ∃ u, exec (c.1 p d x) s = .next u ∧
          u.r32 d = (if holds then v else s.r32 d) ∧ (∀ q, q ≠ d → u.r32 q = s.r32 q) ∧
          u = { t with gpr := u.gpr, eip := s.eip + BitVec.ofNat 32 (rmLength p x) })) ∧
      (locked p = false → hasCmov s.cfg = true → s.wideOperand p = false →
        (∀ e, s.src16 p x = .exn e → exec (c.1 p d x) s = takeException e s) ∧
        (∀ v t, s.src16 p x = .ok v t → PagingOnly s t ∧ ∃ u, exec (c.1 p d x) s = .next u ∧
          u.r16 d = (if holds then v else s.r16 d) ∧
          (u.r32 d).extractLsb' 16 16 = (s.r32 d).extractLsb' 16 16 ∧ (∀ q, q ≠ d → u.r32 q = s.r32 q) ∧
          u = { t with gpr := u.gpr, eip := s.eip + BitVec.ofNat 32 (rmLength p x) }))

/-! ## FPU instructions -/

/-- The eight FCMOVcc with no empty operand and no FPU exception pending (47 R398, R421 to R428): ST(0) becomes ST(i) when
the condition on CF, PF, ZF holds; the status word keeps every bit but C0, C2, C3; nothing else changes but EIP. That the
tag of ST(0) follows the copied value and TOS stays is general knowledge in R398; a pending exception is log 36's. -/
def Obligations.FcmovMovesIfCondition : Prop :=
  ∀ c ∈ ([(.fcmovb, fun c _ _ => c), (.fcmove, fun _ _ z => z), (.fcmovbe, fun c _ z => c || z),
      (.fcmovu, fun _ p _ => p), (.fcmovnb, fun c _ _ => !c), (.fcmovne, fun _ _ z => !z),
      (.fcmovnbe, fun c _ z => !c && !z), (.fcmovnu, fun _ p _ => !p)] :
      List ((List Pfx → RegNum → Instr) × (Bool → Bool → Bool → Bool))),
    ∀ (p : List Pfx) (i : RegNum) (s : State), fpuRuns s p → stackFull s i →
      let holds := c.2 (s.flag bitCF) (s.flag bitPF) (s.flag bitZF)
      ∃ u, exec (c.1 p i) s = .next u ∧
        u.st 0 = (if holds then s.st i else s.st 0) ∧ (∀ q : RegNum, q ≠ s.tos → u.fpr[q.toNat] = s.fpr[q.toNat]) ∧
        u.tag s.tos = (if holds then s.tag (s.stIndex i) else s.tag s.tos) ∧
        (∀ q : RegNum, q ≠ s.tos → u.tag q = s.tag q) ∧
        (∀ k, k ≠ 8 → k ≠ 10 → k ≠ 14 → u.fsw.getLsbD k = s.fsw.getLsbD k) ∧
        u = { s with fpr := u.fpr, ftw := u.ftw, fsw := u.fsw, draws := u.draws,
                     eip := s.eip + BitVec.ofNat 32 (p.length + 2) }

/-- FCMOVcc and the FCOMI family with an empty operand (47 R398 step 3, R402 step 3): the instruction completes with C1
= 0; FCMOVcc leaves EFLAGS and TOS alone (47 R398), the FCOMI family C0, C2 and C3 (47 R402 step 6). That IE and SF are set, that an unmasked #IS becomes pending, and that FCMOVcc with IM = 0 leaves the data
registers alone is the model's reading (log 36); that FCMOVcc takes the underflow with a false condition too is 92_eei D7
(47 R399). -/
def Obligations.StackUnderflow : Prop :=
  ∀ c ∈ ([(.fcmovb, true), (.fcmove, true), (.fcmovbe, true), (.fcmovu, true), (.fcmovnb, true), (.fcmovne, true),
      (.fcmovnbe, true), (.fcmovnu, true), (.fcomi, false), (.fcomip, false), (.fucomi, false), (.fucomip, false)] :
      List ((List Pfx → RegNum → Instr) × Bool)),
    ∀ (p : List Pfx) (i : RegNum) (s : State), fpuRuns s p → s.underflow i = true →
      ∃ u, exec (c.1 p i) s = .next u ∧ u.fsw.getLsbD bitC1 = false ∧ u.fsw.getLsbD bitIE = true ∧
        u.fsw.getLsbD bitStackFault = true ∧ (s.invalidMasked = false → u.fpuPending = true ∧ u.fpr = s.fpr) ∧
        (s.invalidMasked = true → u.fpuPending = false) ∧
        (∀ q : RegNum, q ≠ s.tos → u.fpr[q.toNat] = s.fpr[q.toNat] ∧ u.tag q = s.tag q) ∧
        (c.2 = true → u.eflags = s.eflags ∧ u.tos = s.tos) ∧
        (c.2 = false → u.fpr = s.fpr ∧ ∀ k ∈ [bitC0, bitC2, bitC3], u.fsw.getLsbD k = s.fsw.getLsbD k) ∧
        (∀ k, k ≠ bitCF → k ≠ bitPF → k ≠ bitZF → u.flag k = s.flag k) ∧
        u = { s with fpr := u.fpr, ftw := u.ftw, fsw := u.fsw, eflags := u.eflags, draws := u.draws,
                     eip := s.eip + BitVec.ofNat 32 (p.length + 2) }

/-- FCOMI, FCOMIP, FUCOMI, FUCOMIP on two ordered operands (47 R402 to R407): ZF, PF, CF from the order of the real
numbers, C1 = 0, the other condition codes and flags unchanged; FCOMIP and FUCOMIP pop. The 80-bit format is general
knowledge in R407, and that a denormal raises nothing is the model's reading (log 37). -/
def Obligations.CompareOrdered : Prop :=
  ∀ c ∈ ([(.fcomi, false), (.fcomip, true), (.fucomi, false), (.fucomip, true)] :
      List ((List Pfx → RegNum → Instr) × Bool)),
    ∀ (p : List Pfx) (i : RegNum) (s : State), fpuRuns s p → stackFull s i → isOrdered (s.st 0) → isOrdered (s.st i) →
      ∃ u, exec (c.1 p i) s = .next u ∧
        u.flag bitZF = decide (realValue (s.st 0) = realValue (s.st i)) ∧ u.flag bitPF = false ∧
        u.flag bitCF = decide (realValue (s.st 0) < realValue (s.st i)) ∧
        (∀ k, k ≠ bitCF → k ≠ bitPF → k ≠ bitZF → u.flag k = s.flag k) ∧
        u.fsw.getLsbD bitC1 = false ∧ (∀ k, k ≠ 9 → (k < 11 ∨ 14 ≤ k) → u.fsw.getLsbD k = s.fsw.getLsbD k) ∧
        u.tos = (if c.2 then s.tos + 1 else s.tos) ∧ u.tag s.tos = (if c.2 then 3 else s.tag s.tos) ∧
        (∀ q : RegNum, q ≠ s.tos → u.tag q = s.tag q) ∧
        u = { s with eflags := u.eflags, fsw := u.fsw, ftw := u.ftw, eip := s.eip + BitVec.ofNat 32 (p.length + 2) }

/-- The FCOMI family on unordered operands (47 R402 steps 5 to 7): a quiet NaN under FUCOMI and FUCOMIP, or a masked
#IA, gives ZF, PF, CF = 1, 1, 1 and the pop; #IA (a signalling NaN or an unsupported format, for FCOMI and FCOMIP any
NaN) unmasked leaves EFLAGS alone and becomes pending. C1 = 0 and C0, C2, C3 stay (step 6), and so does the tag of every
register but the old ST(0). That #IA sets IE, and whether an unmasked #IA pops, are the model's reading (log 36). -/
def Obligations.CompareUnordered : Prop :=
  ∀ c ∈ ([(.fcomi, false, false), (.fcomip, false, true), (.fucomi, true, false), (.fucomip, true, true)] :
      List ((List Pfx → RegNum → Instr) × Bool × Bool)),
    ∀ (p : List Pfx) (i : RegNum) (s : State), fpuRuns s p → stackFull s i →
      let hard := (unsupported (s.st 0) || unsupported (s.st i) || isSnan (s.st 0) || isSnan (s.st i)) = true
      let nan := (isNan (s.st 0) || isNan (s.st i)) = true
      let invalid := hard ∨ (nan ∧ c.2.1 = false)
      ((nan ∨ hard) → ∃ u, exec (c.1 p i) s = .next u ∧ u.fsw.getLsbD bitC1 = false ∧
        (∀ k ∈ [bitC0, bitC2, bitC3], u.fsw.getLsbD k = s.fsw.getLsbD k) ∧ (∀ q : RegNum, q ≠ s.tos → u.tag q = s.tag q) ∧
        u = { s with eflags := u.eflags, fsw := u.fsw, ftw := u.ftw, draws := u.draws,
                     eip := s.eip + BitVec.ofNat 32 (p.length + 2) } ∧
        ((¬invalid ∨ s.invalidMasked = true) → u.flag bitZF = true ∧ u.flag bitPF = true ∧ u.flag bitCF = true ∧
          (∀ k, k ≠ bitCF → k ≠ bitPF → k ≠ bitZF → u.flag k = s.flag k) ∧ u.fpuPending = false ∧
          u.tos = (if c.2.2 then s.tos + 1 else s.tos) ∧ u.tag s.tos = (if c.2.2 then 3 else s.tag s.tos) ∧
          (∀ k, k ≠ bitIE → k ≠ bitC1 → (k < 11 ∨ 14 ≤ k) → u.fsw.getLsbD k = s.fsw.getLsbD k) ∧
          (¬invalid → u.fsw.getLsbD bitIE = s.fsw.getLsbD bitIE)) ∧
        (invalid → u.fsw.getLsbD bitIE = true) ∧
        (invalid → s.invalidMasked = false → u.eflags = s.eflags ∧ u.fpuPending = true ∧
          (c.2.2 = false → u.tos = s.tos ∧ u.ftw = s.ftw)))

/-- Every FCMOVcc and FCOMI form raises #UD with LOCK or without the feature, then #NM when CR0.EM or CR0.TS is set (47
R398, R402 steps 1 and 2, 60 R503, 30_encoding R162). Choices: #UD without the feature is 92_eei D13 (30_encoding R172, log
27), its place before #NM is D5 (log 25). -/
def Obligations.FpuChecks : Prop :=
  ∀ f ∈ ([.fcmovb, .fcmove, .fcmovbe, .fcmovu, .fcmovnb, .fcmovne, .fcmovnbe, .fcmovnu, .fcomi, .fcomip, .fucomi,
      .fucomip] : List (List Pfx → RegNum → Instr)),
    ∀ (p : List Pfx) (i : RegNum) (s : State),
      ((locked p = true ∨ hasCmov s.cfg = false) → exec (f p i) s = takeException .ud s) ∧
      (locked p = false → hasCmov s.cfg = true → (s.em = true ∨ s.ts = true) → exec (f p i) s = takeException .nm s)

/-! ## P5 and P6 system instructions -/

/-- CMPXCHG8B m64 (46 R350): equal: ZF = 1 and ECX:EBX is stored; unequal: ZF = 0, EDX:EAX receives the memory value and
no byte changes; no other memory space changes. That the eight bytes are checked for a write in the unequal case too is
92_eei D14 (log 43). -/
def Obligations.Cmpxchg8bCompareExchange : Prop :=
  ∀ (p : List Pfx) (m : Mem) (s t : State) (as : List Nat), Memory.wf s.physMem →
    s.operandAddrs (operandSeg p m) (s.ea m) 8 true = .ok as t → (∀ a ∈ as, t.stopAt a = none) →
    let old := leValue 64 (readBytes t.physMem as)
    PagingOnly s t ∧ ∃ u, exec (.cmpxchg8b p (.mem m)) s = .next u ∧
      (∀ k, k ≠ bitZF → u.flag k = s.flag k) ∧
      (∀ a, a ∉ as → readByte u.physMem a = readByte t.physMem a) ∧
      (s.edxEax = old → u.flag bitZF = true ∧ u.gpr = s.gpr ∧
        (as.Nodup → allRam t as → leValue 64 (readBytes u.physMem as) = s.ecxEbx)) ∧
      (s.edxEax ≠ old → u.flag bitZF = false ∧ u.edxEax = old ∧ u.physMem = t.physMem ∧
        ∀ q, q ≠ rEAX → q ≠ rEDX → u.r32 q = s.r32 q) ∧
      u = { t.setPhysMem u.physMem with
        gpr := u.gpr, eflags := u.eflags, eip := s.eip + BitVec.ofNat 32 (p.length + 3 + m.size) }

/-- CMPXCHG8B with a register operand raises #UD; a memory operand that fails a check for writing raises its exception (46
R350 steps 1 and 3, 60 R505). Choices: the write check whatever EDX:EAX holds is 92_eei D14 (log 43), and the A bits
dropped on a fault are log 21. -/
def Obligations.Cmpxchg8bTraps : Prop :=
  ∀ (p : List Pfx) (s : State),
    (∀ r, exec (.cmpxchg8b p (.reg r)) s = takeException .ud s) ∧
    (∀ m e, s.operandAddrs (operandSeg p m) (s.ea m) 8 true = .exn e →
      exec (.cmpxchg8b p (.mem m)) s = takeException e s)

/-- CPUID (46 R352 to R356): leaf 0 gives the highest leaf and GenuineIntel, leaf 1 the signature and the features, leaf
2 of a P6 the descriptors; every leaf completes and changes only EAX, EBX, ECX, EDX and EIP. -/
def Obligations.CpuidLeaves : Prop :=
  ∀ (p : List Pfx) (s : State), locked p = false →
    ∃ u, exec (.cpuid p) s = .next u ∧
      (s.r32 rEAX = 0 → u.r32 rEAX = (if s.cfg.family = .p6 then 2 else 1) ∧ u.r32 rEBX = 0x756E6547 ∧
        u.r32 rEDX = 0x49656E69 ∧ u.r32 rECX = 0x6C65746E) ∧
      (s.r32 rEAX = 1 → (u.r32 rEAX).extractLsb' 0 14 = s.cfg.signature.extractLsb' 0 14 ∧
        u.r32 rEDX = s.cfg.features) ∧
      (s.r32 rEAX = 2 → s.cfg.family = .p6 → u.r32 rEAX = s.cfg.leaf2a ∧ u.r32 rEBX = s.cfg.leaf2b ∧
        u.r32 rECX = s.cfg.leaf2c ∧ u.r32 rEDX = s.cfg.leaf2d) ∧
      (∀ q, q ∉ [rEAX, rEBX, rECX, rEDX] → u.r32 q = s.r32 q) ∧
      u = { s with gpr := u.gpr, draws := u.draws, eip := s.eip + BitVec.ofNat 32 (p.length + 2) }

/-- RDTSC (46 R358): #GP(0) when CR4.TSD = 1 outside CPL 0, else EDX:EAX receives the TSC and nothing else changes but
EIP. -/
def Obligations.RdtscReadsCounter : Prop :=
  ∀ (p : List Pfx) (s : State), locked p = false →
    (s.tsd = true → s.cplNow ≠ 0 → exec (.rdtsc p) s = takeException .gp s) ∧
    ((s.tsd = false ∨ s.cplNow = 0) → ∃ u, exec (.rdtsc p) s = .next u ∧ u.edxEax = s.tsc ∧
      (∀ q, q ≠ rEAX → q ≠ rEDX → u.r32 q = s.r32 q) ∧
      u = { s with gpr := u.gpr, eip := s.eip + BitVec.ofNat 32 (p.length + 2) })

/-- RDMSR (46 R360): #GP(0) in virtual-8086 mode, outside CPL 0 or for a number MSR_Valid does not admit; else EDX:EAX
receives TSC, CESR (31:0; 63:32 is unspecified), CTR0 or CTR1. That bits 63:40 of a counter read as 0 is 93 U12. -/
def Obligations.RdmsrReadsRegister : Prop :=
  ∀ (p : List Pfx) (s : State), locked p = false →
    ((s.mode = .v86 ∨ s.cplNow ≠ 0 ∨ s.cfg.msrValid.contains (s.r32 rECX).toNat = false) →
      exec (.rdmsr p) s = takeException .gp s) ∧
    (msrRuns s → s.r32 rECX ∈ ([0x10, 0x11, 0x12, 0x13] : List Dword) → ∃ u, exec (.rdmsr p) s = .next u ∧
      (s.r32 rECX = 0x10 → u.edxEax = s.tsc) ∧ (s.r32 rECX = 0x11 → u.r32 rEAX = s.cesr) ∧
      (s.r32 rECX = 0x12 → u.edxEax.toNat = s.ctr0.toNat) ∧ (s.r32 rECX = 0x13 → u.edxEax.toNat = s.ctr1.toNat) ∧
      (∀ q, q ≠ rEAX → q ≠ rEDX → u.r32 q = s.r32 q) ∧
      u = { s with gpr := u.gpr, draws := u.draws, eip := s.eip + BitVec.ofNat 32 (p.length + 2) })

/-- WRMSR (46 R362): the same #GP(0) cases, and #GP(0) for a 1 in a reserved bit of CESR; else the register ECX names
receives EDX:EAX (a counter its low 40 bits) and nothing else changes but EIP. Choices: the map of the reserved bits is
general knowledge in 10_state R46, its #GP and the discarded bits 63:40 are 92_eei D16 (46 R363, 93 U12), the whole
64-bit TSC is log 34. -/
def Obligations.WrmsrWritesRegister : Prop :=
  ∀ (p : List Pfx) (s : State), locked p = false →
    ((s.mode = .v86 ∨ s.cplNow ≠ 0 ∨ s.cfg.msrValid.contains (s.r32 rECX).toNat = false) →
      exec (.wrmsr p) s = takeException .gp s) ∧
    (msrRuns s →
      let past := s.eip + BitVec.ofNat 32 (p.length + 2)
      (s.r32 rECX = 0x10 → exec (.wrmsr p) s = .next { s with tsc := s.edxEax, eip := past }) ∧
      (s.r32 rECX = 0x11 → (∃ k < 64, k ∉ [0, 1, 2, 3, 4, 5, 6, 7, 8, 9, 16, 17, 18, 19, 20, 21, 22, 23, 24, 25] ∧
        s.edxEax.getLsbD k = true) → exec (.wrmsr p) s = takeException .gp s) ∧
      (s.r32 rECX = 0x11 → (∀ k < 64, k ∉ [0, 1, 2, 3, 4, 5, 6, 7, 8, 9, 16, 17, 18, 19, 20, 21, 22, 23, 24, 25] →
        s.edxEax.getLsbD k = false) → exec (.wrmsr p) s = .next { s with cesr := s.r32 rEAX, eip := past }) ∧
      (s.r32 rECX = 0x12 → ∃ u, exec (.wrmsr p) s = .next u ∧ u.ctr0.toNat = s.edxEax.toNat % 2 ^ 40 ∧
        u = { s with ctr0 := u.ctr0, eip := past }) ∧
      (s.r32 rECX = 0x13 → ∃ u, exec (.wrmsr p) s = .next u ∧ u.ctr1.toNat = s.edxEax.toNat % 2 ^ 40 ∧
        u = { s with ctr1 := u.ctr1, eip := past }))

/-- RDPMC (47 R410): #UD without the feature, #GP(0) for ECX above 1 or with CR4.PCE = 0 outside CPL 0; else EDX:EAX
receives the counter. Choices: PMC[0] and PMC[1] are CTR0 and CTR1, and bits 31:8 of EDX, which R410 calls unspecified,
read as 0 (93 U12, 92_eei D16, log 35); #UD without the feature is D13 (30_encoding R172, log 27). -/
def Obligations.RdpmcReadsCounter : Prop :=
  ∀ (p : List Pfx) (s : State), locked p = false →
    (s.cfg.rdpmc = false → exec (.rdpmc p) s = takeException .ud s) ∧
    (s.cfg.rdpmc = true → (s.r32 rECX ≠ 0 ∧ s.r32 rECX ≠ 1 ∨ s.pce = false ∧ s.cplNow ≠ 0) →
      exec (.rdpmc p) s = takeException .gp s) ∧
    (s.cfg.rdpmc = true → (s.r32 rECX = 0 ∨ s.r32 rECX = 1) → (s.pce = true ∨ s.cplNow = 0) →
      ∃ u, exec (.rdpmc p) s = .next u ∧
        u.edxEax.toNat = (if s.r32 rECX = 0 then s.ctr0.toNat else s.ctr1.toNat) ∧
        (∀ q, q ≠ rEAX → q ≠ rEDX → u.r32 q = s.r32 q) ∧
        u = { s with gpr := u.gpr, eip := s.eip + BitVec.ofNat 32 (p.length + 2) })

/-- UD2 raises #UD and does nothing else; the saved EIP is its own address (47 R412, 60 R505). In protected mode the
exception is always delivered, by the free delivery of log 6 (the model's choice); `lastExn`, which records it, is the
model's own field (log 49); real-address mode is the subject of RealDelivery. -/
def Obligations.Ud2RaisesInvalidOpcode : Prop :=
  ∀ (p : List Pfx) (s : State), exec (.ud2 p) s = takeException .ud s ∧
    (∀ t, exec (.ud2 p) s = .next t → t.lastExn = some ⟨6, none, s.eip⟩) ∧
    (s.mode = .prot → ∃ t, exec (.ud2 p) s = .next t ∧ t.lastExn = some ⟨6, none, s.eip⟩)

/-- LOCK before any instruction of the opcode table but CMPXCHG8B raises #UD, and before CMPXCHG8B it changes only the
length (30_encoding R162, 46 R351). Choices: #UD on the instructions that are no MMX instructions is the spec's own
addition in R162, and that LOCK has no effect a single agent sees is 92_eei D6 (log 41). -/
def Obligations.LockPrefix : Prop :=
  ∀ (i : Instr) (s : State),
    (locked i.parts.1 = true → (∀ p x, i ≠ .cmpxchg8b p x) → exec i s = takeException .ud s) ∧
    (∀ p m t, exec (.cmpxchg8b p (.mem m)) s = .next t → (∃ as u bs, s.operandAddrs (operandSeg p m) (s.ea m) 8 true
        = .ok as u ∧ u.readPhys as = .ok bs u) →
      exec (.cmpxchg8b (.lock :: p) (.mem m)) s = .next { t with eip := t.eip + 1 })

/-! ## System management mode -/

/-- RSM (46 R364): #UD outside SMM; in SMM, with an image that passes the checks, the readable registers come from the
save area, SMBASE from its slot where relocation is supported, EIP by the I/O restart field, the halt state by bit 0 of the
auto HALT restart word (60 R567; that bit set for a processor that was not halted is refused, 93 U17); everything else
stays. Choices: the hidden image as the source of segments, CPL, LDTR, TR, GDTR and IDTR is log 15, CR4 from it is log 48,
the fixed bits of EFLAGS are log 39; what RSM does after the handler turned paging on, which R364 says the source does not
describe, is log 66 (the area is read at its physical addresses, the same registers return); the addresses of the area are
taken modulo 2^32 (log 61); which changes of the area stop RSM is log 17. -/
def Obligations.RsmRestores : Prop :=
  ∀ (p : List Pfx) (s : State) (bs : List Byte), locked p = false →
    (s.inSmm = false → exec (.rsm p) s = takeException .ud s) ∧
    (s.inSmm = true → s.readPhys (areaAddrs s.smbase) = .ok bs s → s.rsmBad bs = false →
      areaKept s.smmImage.area bs = true → s.smbaseRefused bs = false →
      ((slot16 bs 0x102).getLsbD 0 = true → s.haltedAtSmi = false → exec (.rsm p) s = .refused .haltRestart) ∧
      (((slot16 bs 0x102).getLsbD 0 = true → s.haltedAtSmi = true) →
      ∀ target, (slot16 bs 0x100 = 0 ∧ target = slot32 bs 0x1F0 ∨
        slot16 bs 0x100 = 0x00FF ∧ s.cfg.smmRevision.getLsbD 16 = true ∧ s.ioRestartEip = some target) →
      exec (.rsm p) s = .next { s with
        gpr := #v[slot32 bs 0x1D0, slot32 bs 0x1D4, slot32 bs 0x1D8, slot32 bs 0x1DC, slot32 bs 0x1E0, slot32 bs 0x1E4,
          slot32 bs 0x1E8, slot32 bs 0x1EC]
        eip := target
        eflags := sanitizeEflags (slot32 bs 0x1F4)
        segs := s.smmImage.segs, cpl := s.smmImage.cpl, ldtr := s.smmImage.ldtr, tr := s.smmImage.tr
        gdtr := s.smmImage.gdtr, idtr := s.smmImage.idtr, cr4 := s.smmImage.cr4
        cr0 := slot32 bs 0x1FC, cr3 := slot32 bs 0x1F8
        dr := { s.dr with dr6 := slot32 bs 0x1CC, dr7 := slot32 bs 0x1C8 }
        smbase := if s.cfg.smmRevision.getLsbD 17 = true then slot32 bs 0xF8 else s.smbase
        inSmm := false, nmiBlocked := false, a20mBlocked := false
        halted := (slot16 bs 0x102).getLsbD 0, haltedAtSmi := false, ioRestartEip := none }))

/-- RSM enters shutdown (46 R366) when the CR4 image has a reserved bit set, the CR0 image has PG = 1 and PE = 0 or NW =
1 and CD = 0, or on P5 the new SMBASE is no multiple of 32 KB; the next step executes nothing. The registers RSM would
load are unspecified (60 R570); that memory, the FPU, the MSRs, CR2, DR0 to DR3, SMBASE and the rest stay is the model's
choice (log 14), and so are: the area read at its physical addresses also after the handler turned paging on (log 66), its
addresses modulo 2^32 (log 61), and these conditions tested before any refusal, so that they hold also where a reserved slot
was changed (log 17). -/
def Obligations.RsmShutdown : Prop :=
  ∀ (p : List Pfx) (s : State) (bs : List Byte), locked p = false → s.inSmm = true →
    s.readPhys (areaAddrs s.smbase) = .ok bs s →
    (s.smmImage.cr4 &&& cr4Reserved s.cfg ≠ 0 ∨
      ((slot32 bs 0x1FC).getLsbD 31 = true ∧ (slot32 bs 0x1FC).getLsbD 0 = false) ∨
      ((slot32 bs 0x1FC).getLsbD 29 = true ∧ (slot32 bs 0x1FC).getLsbD 30 = false) ∨
      (s.cfg.family = .p5 ∧
        (if s.cfg.smmRevision.getLsbD 17 = true then slot32 bs 0xF8 else s.smbase).toNat % 0x8000 ≠ 0)) →
    ∃ u, exec (.rsm p) s = .next u ∧
      u = { s with
        shutdown := true, stepTrap := false, gpr := u.gpr, eip := u.eip, eflags := u.eflags, segs := u.segs, cpl := u.cpl
        ldtr := u.ldtr, tr := u.tr, gdtr := u.gdtr, idtr := u.idtr, cr0 := u.cr0, cr3 := u.cr3, cr4 := u.cr4
        dr := { s.dr with dr6 := u.dr.dr6, dr7 := u.dr.dr7 }, draws := u.draws } ∧
      (s.inputs = [] → ∃ w, step u = .next w ∧
        w = { u with tsc := w.tsc, ctr0 := w.ctr0, ctr1 := w.ctr1, draws := w.draws })

/-- SMM entry (60 R561, R563): the registers of Table 11.2; NMI and A20M blocked; the general registers and DR6 hold
arbitrary values; CR2, CR3, DR0 to DR3, the FPU, the MSRs, SMBASE and the descriptor tables stay; memory changes only in
the save area, which holds the registers, the selectors, SMBASE, the revision identifier, the I/O restart word 0000h and
the halt flag at the places of R560 (60 R560, R561 steps 2 to 5). Choices: the LDT slot, printed as a base with a star, holds
bits 15:0 of the LDTR base (log 16); the addresses of the area are taken modulo 2^32 (log 61); CR4 stays by 92_eei D19 (log 48), CPL is 0 (log
40), the SMBASE field is stored with and without relocation (log 57), a pending single step is dropped (log 62), and the
selector of CS for an SMBASE of 1 MB or more, which R563 calls not meaningful, is the low 16 bits (log 65). -/
def Obligations.SmiEntry : Prop :=
  ∀ (s : State), s.inSmm = false → Memory.wf s.mem → Memory.wf s.smram →
    allRam { s with inSmm := true } (areaAddrs s.smbase) →
    ∃ t, smiEntry s = .ok () t ∧ t.eflags = 0x00000002 ∧ t.eip = 0x00008000 ∧
      t.segs.cs.sel = (s.smbase >>> 4).setWidth 16 ∧ t.segs.cs.base = s.smbase ∧ t.segs.cs.limit = 0xFFFFFFFF ∧
      (∀ g ∈ [t.segs.ds, t.segs.es, t.segs.fs, t.segs.gs, t.segs.ss], g.sel = 0 ∧ g.base = 0 ∧ g.limit = 0xFFFFFFFF) ∧
      (∀ k, t.cr0.getLsbD k = (s.cr0.getLsbD k && !(k == 0 || k == 2 || k == 3 || k == 31))) ∧
      t.cplNow = 0 ∧ t.bigCode = false ∧
      (∀ a, a ∉ areaAddrs s.smbase → readByte t.mem a = readByte s.mem a ∧ readByte t.smram a = readByte s.smram a) ∧
      (let bs := readBytes t.physMem (areaAddrs s.smbase)
       (∀ q : RegNum, slot32 bs (0x1D0 + 4 * q.toNat) = s.r32 q) ∧
       (slot32 bs 0x1F0 = s.eip ∧ slot32 bs 0x1F4 = s.eflags ∧ slot32 bs 0x1F8 = s.cr3 ∧ slot32 bs 0x1FC = s.cr0) ∧
       (slot32 bs 0x1C8 = s.dr.dr7 ∧ slot32 bs 0x1CC = s.dr.dr6) ∧
       (slot16 bs 0x1A8 = s.segs.es.sel ∧ slot16 bs 0x1AC = s.segs.cs.sel ∧ slot16 bs 0x1B0 = s.segs.ss.sel) ∧
       (slot16 bs 0x1B4 = s.segs.ds.sel ∧ slot16 bs 0x1B8 = s.segs.fs.sel ∧ slot16 bs 0x1BC = s.segs.gs.sel) ∧
       (slot16 bs 0x1C0 = s.ldtr.base.setWidth 16 ∧ slot16 bs 0x1C4 = s.tr.sel) ∧
       (slot32 bs 0x188 = s.gdtr.base ∧ slot32 bs 0x194 = s.idtr.base) ∧
       (slot32 bs 0xF8 = s.smbase ∧ slot32 bs 0xFC = s.cfg.smmRevision) ∧
       slot16 bs 0x100 = 0 ∧ (slot16 bs 0x102).getLsbD 0 = s.halted) ∧
      t = { s with
        gpr := t.gpr, eflags := t.eflags, eip := t.eip, segs := t.segs, cr0 := t.cr0
        dr := { s.dr with dr6 := t.dr.dr6, dr7 := 0x00000400 }
        mem := t.mem, smram := t.smram, inSmm := true, nmiBlocked := true, a20mBlocked := true, smiLatched := false
        stepTrap := false, halted := false, haltedAtSmi := s.halted, smmImage := t.smmImage, draws := t.draws }

/-- RSM right after SMM entry gives back the interrupted state: every register, mode and hidden segment part, and the
halt state; what differs is the save area, the unblocked signals, a pending single step and the model's own fields (46
R364, 60 R560, R561, R567). It rests on the hidden image (log 15), CR4 kept in it (log 48), the dropped step (log 62) and the
addresses of the area modulo 2^32 (log 61). -/
def Obligations.SmiThenRsm : Prop :=
  ∀ (s t : State), Inv s → s.inSmm = false → cr0Illegal s.cr0 = false →
    allRam { s with inSmm := true } (areaAddrs s.smbase) → smiEntry s = .ok () t →
    ∃ u, exec (.rsm []) t = .next u ∧
      (∀ a, a ∉ areaAddrs s.smbase → readByte u.mem a = readByte s.mem a ∧ readByte u.smram a = readByte s.smram a) ∧
      u = { s with mem := u.mem, smram := u.smram, smmImage := u.smmImage, draws := u.draws, smiLatched := false, stepTrap := false,
                   nmiBlocked := false, a20mBlocked := false, haltedAtSmi := false, ioRestartEip := none }

/-! ## Exceptions and interrupts -/

/-- Taking an exception records its vector, its error code and the address of the faulting instruction (60 R500, R501,
R506), puts the linear address of a failed translation in CR2, also of one inside the delivery, that of protected mode
among them (20_memory R117, 60 R510), and touches no FPU register, MSR or CR4; in real-address mode VIF and VIP stay
(10_state R24). What a delivery of INT n raises is a fault of INT n. Choices: `lastExn` and `deliveryExn`, which record it, are the model's own (log
49, log 11), as is the code 0 they hold for #GP and #SS in real-address mode, where none is pushed (60 R507, R508); what a
protected-mode delivery leaves alone is log 6; that an instruction that raised leaves no single step pending is log 62; that
CR2 is the register is general knowledge in 60 R510. -/
def Obligations.ExceptionRaiseSide : Prop :=
  ([Exn.ud, .nm, .ss, .gp, .mf, .ac].map fun e => (e.vector, e.code))
      = [(6, none), (7, none), (12, some 0), (13, some 0), (16, none), (17, some 0)] ∧
  (∀ c la, (Exn.pf c la).vector = 14 ∧ (Exn.pf c la).code = some c) ∧
  (∀ (c : Cause) (saved : Dword) (s : State) (x : Exn), (s.raised c saved).deliver c saved = .exn x →
    raiseSoftware c saved s = takeException x s) ∧
  ∀ (e : Exn) (s t : State), takeException e s = .next t →
    t.lastExn = some ⟨e.vector, e.code, s.eip⟩ ∧
    (t.deliveryExn = none → (∀ c la, e = .pf c la → t.cr2 = la) ∧ ((∀ c la, e ≠ .pf c la) → t.cr2 = s.cr2)) ∧
    ((∃ x, (s.raised (.exn e) s.eip).deliver (.exn e) s.eip = .exn x) ↔ t.deliveryExn ≠ none) ∧
    (∀ c la, t.deliveryExn = some (.pf c la) → t.cr2 = la) ∧ (s.mode = .prot → s.pg = false → t.deliveryExn = none) ∧
    (s.mode = .real → t.flag bitVIF = s.flag bitVIF ∧ t.flag bitVIP = s.flag bitVIP) ∧
    t.halted = false ∧ t.stepTrap = false ∧ t.fpr = s.fpr ∧ t.fcw = s.fcw ∧ t.fsw = s.fsw ∧ t.ftw = s.ftw ∧
    t.tsc = s.tsc ∧ t.cesr = s.cesr ∧ t.ctr0 = s.ctr0 ∧ t.ctr1 = s.ctr1 ∧ t.cr4 = s.cr4 ∧ t.smbase = s.smbase ∧
    t.inSmm = s.inSmm ∧ t.gdtr = s.gdtr ∧ t.idtr = s.idtr ∧ t.dr.dr6 = s.dr.dr6 ∧ t.cfg = s.cfg

/-- The deliveries the spec describes, with paging off. In the manner of real-address mode (60 R501, R528, R566): FLAGS, CS
and IP pushed on SS:SP, IF and TF cleared, CS:EIP from the table at linear address 0, no error code, nothing else changed
but what the raise side records. So goes everything raised, exceptions, INT n, NMI, INTR# and the single step, in
real-address mode (the model's reading, log 7) and in SMM; in virtual-8086 mode with VME = 1 and IOPL below 3 exceptions,
NMI, the single step and an INTR# that VIF does not defer (60 R526 method 6); and there INT n with VME = 1, IOPL = 3 and a
clear bit of the redirection map (R526 method 5, R527), with NT and IOPL clear in the pushed FLAGS. Other forms of INT n
raise #GP (IOPL below 3) or go the base way (methods 1 and 4, and outside virtual-8086 mode). What virtual-8086 mode does not
hand to the 8086 program goes to privilege level 0 with the frame of 60 R532. Choices: the gate is a free value, the data
segment registers keep their hidden parts (log 8); which events go there is R530 as printed (log 9); the image of the
deferred interrupt alone has IOPL = 3 and IF = VIF (log 59); the handler's TF, IF, NT and RF are the gate's (log 8); no TSS
limit is checked (log 67); the record `lastExn` is the model's own (log 49), and what the raise side does with a pending
single step and with DR6 is log 62. -/
def Obligations.RealDelivery : Prop :=
  (∀ (e : Exn) (s : State), takeException e s = raise (.exn e) s.eip s) ∧
  (∀ (c : Cause) (saved : Dword) (s : State), RealReady s c.vector →
    let q := s.raised c saved
    ((s.mode = .real ∨ s.mode = .smm) → ∃ t, raise c saved s = .next t ∧ raiseSoftware c saved s = .next t ∧
      RealDelivered q t c.vector (s.eflags.setWidth 16) (saved.setWidth 16) ∧
      t.lastExn = some ⟨c.vector, c.code, saved⟩ ∧ t.halted = false) ∧
    (s.mode = .v86 → s.vme = true → s.iopl ≠ 3 →
      ((∃ e, c = .exn e) ∨ c = .singleStep ∨ c = .nmi ∨ ∃ v, c = .intr v) →
      ∃ t flags, raise c saved s = .next t ∧ RealDelivered q t c.vector flags (saved.setWidth 16) ∧
        (∀ k < 16, flags.getLsbD k = (s.flag k && !(k == 12 || k == 13 || k == 14))) ∧
        t.mode = .v86 ∧ t.lastExn = some ⟨c.vector, c.code, saved⟩ ∧ t.halted = false)) ∧
  (∀ (n : Byte) (len : Nat) (s : State),
    let saved := s.eip + BitVec.ofNat 32 len
    (s.mode ≠ .v86 → execBase [] (.int n) len s = raiseSoftware (.soft n) saved s) ∧
    (s.mode = .v86 → s.iopl ≠ 3 → execBase [] (.int n) len s = takeException .gp s) ∧
    (s.mode = .v86 → s.iopl = 3 → s.vme = false → execBase [] (.int n) len s = raiseSoftware (.soft n) saved s) ∧
    (s.mode = .v86 → s.iopl = 3 → s.vme = true →
      (∀ e, s.redirectionBit n = .exn e → execBase [] (.int n) len s = takeException e s) ∧
      (∀ t, s.redirectionBit n = .ok true t → PagingOnly s t ∧
        execBase [] (.int n) len s = raiseSoftware (.soft n) saved t) ∧
      (s.redirectionBit n = .ok false s → RealReady s n →
        ∃ t flags, execBase [] (.int n) len s = .next t ∧
          RealDelivered (s.raised (.redirected n) saved) t n flags (saved.setWidth 16) ∧
          (∀ k < 16, flags.getLsbD k = (s.flag k && !(k == 12 || k == 13 || k == 14))) ∧
          t.mode = .v86 ∧ t.cr2 = s.cr2 ∧ t.lastExn = some ⟨n, none, saved⟩))) ∧
  ∀ (g : Gate) (c : Cause) (saved : Dword) (s : State), s.mode = .v86 → Pl0Ready s g c →
    (c = .deferred ∨ c = .stiPending ∨ (∃ n, c = .soft n) ∨ ((∀ n, c ≠ .redirected n) ∧ (s.vme = false ∨ s.iopl = 3))) →
    let q := s.raised c saved
    ∃ t image, q.pl0Delivery g c saved = .ok () t ∧ Pl0Delivered q t g c saved image ∧
      (c ≠ .deferred → image = s.eflags) ∧
      (c = .deferred → ∀ k, image.getLsbD k = ((k == 12 || k == 13) || if k = bitIF then s.flag bitVIF else s.flag k)) ∧
      (gateFree q c = some g → raise c saved s = .next t ∧ raiseSoftware c saved s = .next t)

/-- What an input does and what a boundary takes. An input but RESET# is taken in outside shutdown and the boundary
follows: SMI# is latched, in SMM too, where a second one is lost (60 R561); NMI# is latched (60 R565); INTR# sets the
request (60 R513); RESET# leaves the reset state from every state, the halt state of SMM and shutdown among them (60 R568,
70_reset R601), and nothing else happens in its step; INIT# resets but for the FPU, the MSRs and SMBASE (70_reset R605), and the halt state of SMM ignores it
(60 R568). Taken are (60 R512, R513, R565): SMI before everything; in shutdown nothing else; the debug exception of a
single step (vector 1, no code); NMI (vector 2) unless SMM blocks it; INTR# with IF = 1, or, where VIF defers it, a #GP(0)
that leaves the request pending (60 R532, R538); last the halt state goes on (60 R516), which in SMM INTR# alone ends
(60 R568). HLT enters it at CPL 0. Choices: the order after SMI (log 12, log 62); nothing is taken once VIP is set, DEDUCED
from R533 and R538 (log 12); vectors below 32 are deferred like the others (log 60); the polarity of VIF is a parameter
(log 10); the code 0 of the deferred #GP is general knowledge in 60 R507; outside SMM a pending single step ends the halt
state (log 62); HLT's CPL (log 28); what INIT# keeps (log 13); after RESET# no remembered walk is left whatever the parameter
`ResetState` holds, and the hidden state is clear, which 70_reset R606 marks as the spec's own (log 2); a further NMI is taken
whether or not the handler of one before it still runs, and a further INTR# replaces the vector of a pending request (log 12). -/
def Obligations.EventOrder : Prop :=
  ∀ (s : State),
    let halt := s.inSmm = true ∧ s.halted = true
    let smi := s.smiLatched = true ∧ s.inSmm = false
    let trap := s.stepTrap = true ∧ ¬halt
    let nmi := s.nmiLatched = true ∧ s.nmiBlocked = false ∧ ¬halt
    let deferred := s.iopl ≠ 3 ∧ s.flag bitVIF = s.cfg.vifSetMeansMasked ∧
      (s.mode = .v86 ∧ s.vme = true ∨ s.mode = .prot ∧ s.pvi = true ∧ s.cplNow = 3)
    let held := s.flag bitIF = false ∨ deferred ∧ s.flag bitVIP = true
    (s.inputs = [] → step s = boundary s) ∧
    (∀ rest, s.inputs = none :: rest → step s = boundary { s with inputs := rest }) ∧
    (∀ rest, s.inputs = some .reset :: rest → ∃ w, step s = .next w ∧ w.shutdown = false ∧ w.halted = false ∧
      w.inSmm = false ∧ w.smbase = 0x30000 ∧ w.gpr = s.cfg.resetState.gpr ∧ w.eip = s.cfg.resetState.eip ∧
      w.segs = s.cfg.resetState.segs ∧ w.cr0 = s.cfg.resetState.cr0 ∧ w.tlb = [] ∧ w.mem = s.mem ∧ w.smram = s.smram ∧
      w.cfg = s.cfg ∧ w.inputs = rest) ∧
    (∀ (i : Input) (rest : List (Option Input)), s.inputs = some i :: rest → s.shutdown = false →
      let q := { s with inputs := rest }
      (∀ io, i = .smi io → (s.inSmm = true → step s = boundary { q with smiLatched := true } ∧
          (s.smiLatched = true → step s = boundary q)) ∧
        (s.inSmm = false → step s = boundary { q with smiLatched := true, ioRestartEip := io })) ∧
      (i = .nmi → step s = boundary { q with nmiLatched := true }) ∧
      (∀ v, i = .intr v → step s = boundary { q with intrLine := some v }) ∧
      (i = .intrOff → step s = boundary { q with intrLine := none }) ∧
      (i = .flush ∨ i = .a20m → step s = boundary q) ∧
      (i = .init → (halt → step s = boundary q) ∧ (¬halt → ∃ w, step s = boundary w ∧ w.gpr = s.cfg.resetState.gpr ∧
        w.eip = s.cfg.resetState.eip ∧ w.cr0 = s.cfg.resetState.cr0 ∧ w.segs = s.cfg.resetState.segs ∧
        w.inSmm = false ∧ w.halted = false ∧ w.fpr = s.fpr ∧ w.fcw = s.fcw ∧ w.fsw = s.fsw ∧ w.ftw = s.ftw ∧
        w.tsc = s.tsc ∧ w.cesr = s.cesr ∧ w.ctr0 = s.ctr0 ∧ w.ctr1 = s.ctr1 ∧ w.smbase = s.smbase ∧ w.mem = s.mem ∧
        w.smram = s.smram))) ∧
    (smi → s.shutdown = false → boundary s = ticked s (Res.finish (smiEntry s) s)) ∧
    (s.shutdown = true → boundary s = ticked s (.next s)) ∧
    (s.shutdown = false → ¬smi →
      (trap → boundary s = ticked s (raise .singleStep s.eip s)) ∧
      (¬trap →
        (nmi → boundary s = ticked s (raise .nmi s.eip { s with nmiLatched := false })) ∧
        (¬nmi → ∀ v, s.intrLine = some v →
          (¬held → ¬deferred → boundary s = ticked s (raise (.intr v) s.eip { s with intrLine := none })) ∧
          (¬held → deferred → boundary s = ticked s (raise .deferred s.eip s))) ∧
        (¬nmi → (s.intrLine = none ∨ held) →
          (s.halted = true → boundary s = ticked s (.next s)) ∧
          (s.halted = false → boundary s = ticked s (fetchRun s))))) ∧
    ([Cause.singleStep, .nmi, .deferred].map fun c => (c.vector, c.code))
      = [(1, none), (2, none), (13, some 0)] ∧
    (∀ v, (Cause.intr v).vector = v ∧ (Cause.intr v).code = none) ∧
    (∀ len, (s.cplNow = 0 → execBase [] .hlt len s =
        .next { s with halted := true, eip := s.eip + BitVec.ofNat 32 len }) ∧
      (s.cplNow ≠ 0 → execBase [] .hlt len s = takeException .gp s))

/-- CLI and STI where virtual interrupts apply (virtual-8086 mode with VME, or CPL 3 of protected mode with PVI, IOPL
below 3) write VIF and not IF, STI with VIP = 1 raises #GP(0); elsewhere they write IF, or raise #GP when CPL > IOPL (60
R531, R533, R536, R537). PUSHF, POPF and IRET raise #GP in virtual-8086 mode with IOPL below 3 (60 R534). Choices: the
polarity of VIF is a parameter (log 10), the #GP of STI goes to privilege level 0 (log 9), its code 0 and IF written with
CPL ≤ IOPL < 3 are general knowledge in 60 R507 and R537, the #GP of PUSHF, POPF and IRET in 60 R534; their encodings 9C, 9D
and CF, which the spec does not give, are the family's (PRESUMED, log 28). -/
def Obligations.VirtualInterrupts : Prop :=
  Cause.stiPending.vector = 13 ∧ Cause.stiPending.code = some 0 ∧
  ∀ (len : Nat) (s : State),
    let virtual := s.iopl ≠ 3 ∧ (s.mode = .v86 ∧ s.vme = true ∨ s.mode = .prot ∧ s.pvi = true ∧ s.cplNow = 3)
    let past := s.eip + BitVec.ofNat 32 len
    let masked := s.cfg.vifSetMeansMasked
    (virtual → (∃ u, execBase [] .cli len s = .next u ∧ u.flag bitVIF = masked ∧
        (∀ k, k ≠ bitVIF → u.flag k = s.flag k) ∧ u = { s with eflags := u.eflags, eip := past }) ∧
      (s.flag bitVIP = false → ∃ u, execBase [] .sti len s = .next u ∧ u.flag bitVIF = !masked ∧
        (∀ k, k ≠ bitVIF → u.flag k = s.flag k) ∧ u = { s with eflags := u.eflags, eip := past }) ∧
      (s.flag bitVIP = true → execBase [] .sti len s = raise .stiPending s.eip s)) ∧
    (¬virtual → s.cplNow.toNat > s.iopl.toNat →
      execBase [] .cli len s = takeException .gp s ∧ execBase [] .sti len s = takeException .gp s) ∧
    (¬virtual → s.cplNow.toNat ≤ s.iopl.toNat →
      (∃ u, execBase [] .cli len s = .next u ∧ u.flag bitIF = false ∧ (∀ k, k ≠ bitIF → u.flag k = s.flag k) ∧
        u = { s with eflags := u.eflags, eip := past }) ∧
      (∃ u, execBase [] .sti len s = .next u ∧ u.flag bitIF = true ∧ (∀ k, k ≠ bitIF → u.flag k = s.flag k) ∧
        u = { s with eflags := u.eflags, eip := past })) ∧
    (s.mode = .v86 → s.iopl ≠ 3 → ∀ op ∈ ([0x9C, 0x9D, 0xCF] : List Byte),
      decode false [op] = .base [] (.flagsOp op) 1 ∧ execBase [] (.flagsOp op) len s = takeException .gp s)

/-! ## Memory -/

/-- The checks of a memory operand in their order (20_memory R83, R87, R88, 60 R507 to R509): null selector and read-only
segment in protected mode, the limit (#SS through SS, else #GP), then alignment. The limit is the segment's in protected
mode, FFFFh in real-address and virtual-8086 mode (20_memory R88), FFFFFFFFh in SMM (60 R563). Choices: the order is
general knowledge in 20_memory R87 (log 25), the hidden part the checks read is log 23, the size and conditions of #AC are
log 24. -/
def Obligations.OperandChecks : Prop :=
  ∀ (s : State) (g : SegName) (ea : Dword) (n : Nat) (w : Bool),
    let null := s.mode = .prot ∧ g ≠ .cs ∧ g ≠ .ss ∧ (s.segs.get g).sel = 0
    let readOnly := s.mode = .prot ∧ w = true ∧ (s.segs.get g).writable = false
    let limit : Dword := if s.mode = .prot then (s.segs.get g).limit else if s.mode = .smm then 0xFFFFFFFF else 0x0000FFFF
    let beyond := ea.toNat + n - 1 > limit.toNat
    let crooked := s.cplNow = 3 ∧ s.am = true ∧ s.flag bitAC = true ∧ (s.lin g ea).toNat % n ≠ 0
    ((null ∨ readOnly) → s.operandAddrs g ea n w = .exn .gp) ∧
    (¬null → ¬readOnly → beyond → s.operandAddrs g ea n w = .exn (if g = .ss then .ss else .gp)) ∧
    (¬null → ¬readOnly → ¬beyond → crooked → s.operandAddrs g ea n w = .exn .ac) ∧
    (¬null → ¬readOnly → ¬beyond → ¬crooked → s.pg = false →
      s.operandAddrs g ea n w = .ok ((List.range n).map fun k => ((s.segs.get g).base + ea + BitVec.ofNat 32 k).toNat) s)

/-- With CR0.PG = 0 the physical address is the linear address (20_memory R103). -/
def Obligations.PagingOffIsIdentity : Prop :=
  ∀ (s : State) (la : Dword) (acc : Access), s.pg = false → s.translate la acc = .ok la.toNat s

/-- The 32-bit walk (20_memory R104 to R106, R110): where the entries are, #PF for a clear P, the 4-MB page and its
reserved bits only with CR4.PSE and PS, the physical address of each. The entry that maps the page is the leaf; D and G are
the leaf's, so that G of an entry that points to a table is ignored (20_memory R107, R109, R119). The effective U/S and
R/W are those of the entry of a 4-MB page and the AND of both levels of a 4-KB page, which is general knowledge in
20_memory R116; the error code is log 22, and that bit 7 of a page-table entry is not checked is log 56. -/
def Obligations.PageWalk32 : Prop :=
  ∀ (s : State) (la : Dword) (acc : Access) (pde : BitVec 64),
    let pdeAddr := (s.cr3.extractLsb' 12 20 ++ la.extractLsb' 22 10 ++ 0#2).toNat
    let large := s.pse = true ∧ pde.getLsbD 7 = true
    s.pae = false → s.readEntry pdeAddr 4 = .ok pde s →
    (pde.getLsbD 0 = false → s.walk la acc = .exn (.pf (pfCode false acc false) la)) ∧
    (pde.getLsbD 0 = true → large → pde.extractLsb' 12 10 ≠ 0 → s.walk la acc = .exn (.pf (pfCode true acc true) la)) ∧
    (pde.getLsbD 0 = true → large → pde.extractLsb' 12 10 = 0 → ∃ w, s.walk la acc = .ok w s ∧
      physOf w.entry la = (pde.extractLsb' 22 10 ++ la.extractLsb' 0 22).toNat ∧ w.accessed = [pdeAddr] ∧
      w.entry.user = pde.getLsbD 2 ∧ w.entry.writable = pde.getLsbD 1 ∧
      w.entry.leaf = pdeAddr ∧ w.entry.dirty = pde.getLsbD 6 ∧ w.entry.global = pde.getLsbD 8) ∧
    (pde.getLsbD 0 = true → ¬large → ∀ pte,
      let pteAddr := (pde.extractLsb' 12 20 ++ la.extractLsb' 12 10 ++ 0#2).toNat
      s.readEntry pteAddr 4 = .ok pte s →
      (pte.getLsbD 0 = false → s.walk la acc = .exn (.pf (pfCode false acc false) la)) ∧
      (pte.getLsbD 0 = true → ∃ w, s.walk la acc = .ok w s ∧
        physOf w.entry la = (pte.extractLsb' 12 20 ++ la.extractLsb' 0 12).toNat ∧ w.accessed = [pdeAddr, pteAddr] ∧
        w.entry.user = (pde.getLsbD 2 && pte.getLsbD 2) ∧ w.entry.writable = (pde.getLsbD 1 && pte.getLsbD 1) ∧
        w.entry.leaf = pteAddr ∧ w.entry.dirty = pte.getLsbD 6 ∧ w.entry.global = pte.getLsbD 8))

/-- The walk with physical address extension (20_memory R111 to R114): #PF for a clear P at each level and for the reserved
bits of R110 (bits 63:36 of every entry, 2:1 and 8:5 of a PDPT entry, 20:12 of a 2-MB page); a 2-MB page by PS whatever
CR4.PSE says, else a 4-KB page; 36-bit physical addresses; D and G of the entry that maps the page, its leaf (R109,
R119); the effective U/S and R/W of the two lower levels (general knowledge in R116). Choices: the PDPT entry is read at every walk (log 55), its clear P is general knowledge in R112, the
error code is log 22, the bits R114 prints as 0 elsewhere are not checked (log 56). -/
def Obligations.PageWalkPae : Prop :=
  ∀ (s : State) (la : Dword) (acc : Access) (pdpte pde pte : BitVec 64),
    let pdpteAddr := (s.cr3.extractLsb' 5 27 ++ la.extractLsb' 30 2 ++ 0#3).toNat
    let pdeAddr := (pdpte.extractLsb' 12 24 ++ la.extractLsb' 21 9 ++ 0#3).toNat
    let pteAddr := (pde.extractLsb' 12 24 ++ la.extractLsb' 12 9 ++ 0#3).toNat
    let absent := s.walk la acc = .exn (.pf (pfCode false acc false) la)
    let reserved := s.walk la acc = .exn (.pf (pfCode true acc true) la)
    let clean := pdpte.extractLsb' 36 28 = 0 ∧ pdpte.extractLsb' 1 2 = 0 ∧ pdpte.extractLsb' 5 4 = 0
    s.pae = true → s.readEntry pdpteAddr 8 = .ok pdpte s →
    (pdpte.getLsbD 0 = false → absent) ∧ (pdpte.getLsbD 0 = true → ¬clean → reserved) ∧
    (pdpte.getLsbD 0 = true → clean → s.readEntry pdeAddr 8 = .ok pde s →
      (pde.getLsbD 0 = false → absent) ∧ (pde.getLsbD 0 = true → pde.extractLsb' 36 28 ≠ 0 → reserved) ∧
      (pde.getLsbD 0 = true → pde.extractLsb' 36 28 = 0 → pde.getLsbD 7 = true →
        (pde.extractLsb' 12 9 ≠ 0 → reserved) ∧
        (pde.extractLsb' 12 9 = 0 → ∃ w, s.walk la acc = .ok w s ∧
          physOf w.entry la = (pde.extractLsb' 21 15 ++ la.extractLsb' 0 21).toNat ∧ w.accessed = [pdeAddr] ∧
          w.entry.user = pde.getLsbD 2 ∧ w.entry.writable = pde.getLsbD 1 ∧
          w.entry.leaf = pdeAddr ∧ w.entry.dirty = pde.getLsbD 6 ∧ w.entry.global = pde.getLsbD 8)) ∧
      (pde.getLsbD 0 = true → pde.extractLsb' 36 28 = 0 → pde.getLsbD 7 = false → s.readEntry pteAddr 8 = .ok pte s →
        (pte.getLsbD 0 = false → absent) ∧ (pte.getLsbD 0 = true → pte.extractLsb' 36 28 ≠ 0 → reserved) ∧
        (pte.getLsbD 0 = true → pte.extractLsb' 36 28 = 0 → ∃ w, s.walk la acc = .ok w s ∧
          physOf w.entry la = (pte.extractLsb' 12 24 ++ la.extractLsb' 0 12).toNat ∧ w.accessed = [pdeAddr, pteAddr] ∧
          w.entry.user = (pde.getLsbD 2 && pte.getLsbD 2) ∧ w.entry.writable = (pde.getLsbD 1 && pte.getLsbD 1) ∧
          w.entry.leaf = pteAddr ∧ w.entry.dirty = pte.getLsbD 6 ∧ w.entry.global = pte.getLsbD 8)))

/-- Page-level protection, as 20_memory R116 gives it from general knowledge: a user access needs U/S, a user write R/W, a
supervisor write R/W only with CR0.WP; otherwise #PF with P = 1, the access in bits 1 and 2, and no other bit (60 R510; the
code is log 22). An access that fails none of the three translates: every supervisor read, a supervisor write to a read-only
page with WP = 0. A translation is a fresh walk or goes through a remembered walk that covers the address, with its own
protection bits (20_memory R118; which one is free, log 20). -/
def Obligations.PageProtection : Prop :=
  (∀ (s : State) (la : Dword) (acc : Access) (w : Walk), s.pg = true → s.tlb = [] → s.drew.walk la acc = .ok w s.drew →
    let denied := (acc.user = true ∧ w.entry.user = false) ∨ (acc.write = true ∧ w.entry.writable = false ∧
      (acc.user = true ∨ s.wp = true))
    (denied → ∃ code, s.translate la acc = .exn (.pf code la) ∧ code.getLsbD 0 = true ∧ code.getLsbD 1 = acc.write ∧
      code.getLsbD 2 = acc.user ∧ ∀ k, 3 ≤ k → code.getLsbD k = false) ∧
    (¬denied → (∀ a ∈ w.entry.leaf :: w.accessed, s.stopAt a = none) →
      ∃ t, s.translate la acc = .ok (physOf w.entry la) t)) ∧
  (∀ (s : State) (la : Dword) (acc : Access), s.pg = true →
    (∃ e ∈ s.tlb, covers e la = true ∧ s.translate la acc = s.drew.through e la acc) ∨
      s.translate la acc = s.drew.freshWalk la acc) ∧
  ∀ (s : State) (e : TlbEntry) (la : Dword) (acc : Access),
    let denied := (acc.user = true ∧ e.user = false) ∨ (acc.write = true ∧ e.writable = false ∧
      (acc.user = true ∨ s.wp = true))
    (denied → ∃ code, s.through e la acc = .exn (.pf code la) ∧ code.getLsbD 0 = true ∧ code.getLsbD 1 = acc.write ∧
      code.getLsbD 2 = acc.user ∧ ∀ k, 3 ≤ k → code.getLsbD k = false) ∧
    (¬denied → s.stopAt e.leaf = none → ∃ t, s.through e la acc = .ok (physOf e la) t)

/-- A fresh translation sets A in every entry it used and, for a write, D in the leaf entry (20_memory R109, R117); a read
leaves D as it was, and no other bit of an entry and no other byte of memory changes. A translation through a remembered
walk sets D in its leaf at its first write, which the remembered walk then knows, and changes nothing else (R117, R118). -/
def Obligations.AccessedDirty : Prop :=
  (∀ (s t : State) (la : Dword) (acc : Access) (w : Walk) (pa : Nat), s.pg = true → s.tlb = [] →
    Memory.wf s.physMem → (∀ a, s.kind a = .ram) → s.drew.walk la acc = .ok w s.drew → s.translate la acc = .ok pa t →
    pa = physOf w.entry la ∧ (∀ a ∈ w.accessed, (readByte t.physMem a).getLsbD 5 = true) ∧
    (acc.write = true → (readByte t.physMem w.entry.leaf).getLsbD 6 = true) ∧
    (∀ a, (acc.write = false ∨ a ≠ w.entry.leaf) →
      (readByte t.physMem a).getLsbD 6 = (readByte s.physMem a).getLsbD 6) ∧
    (∀ a k, k ≠ 5 → k ≠ 6 → (readByte t.physMem a).getLsbD k = (readByte s.physMem a).getLsbD k) ∧
    ∀ a, a ∉ w.accessed → a ≠ w.entry.leaf → readByte t.physMem a = readByte s.physMem a) ∧
  ∀ (s t : State) (e : TlbEntry) (la : Dword) (acc : Access) (pa : Nat), Memory.wf s.physMem →
    (∀ a, s.kind a = .ram) → s.through e la acc = .ok pa t →
    pa = physOf e la ∧
    (acc.write = true → e.dirty = false → (readByte t.physMem e.leaf).getLsbD 6 = true ∧
      (e ∈ s.tlb → { e with dirty := true } ∈ t.tlb ∧ e ∉ t.tlb)) ∧
    (acc.write = false ∨ e.dirty = true → t = s) ∧ (∀ a, a ≠ e.leaf → readByte t.physMem a = readByte s.physMem a) ∧
    (∀ a k, k ≠ 6 → (readByte t.physMem a).getLsbD k = (readByte s.physMem a).getLsbD k) ∧
    t = { s with mem := t.mem, smram := t.smram, tlb := t.tlb }

/-! ## Control registers -/

/-- The moves of the control and debug registers (10_state R35 to R39, R42, 20_memory R119): #GP(0) above CPL 0; a 1 in a
reserved bit of CR4 or CR0, or an illegal pair of CR0 bits, raises #GP(0); CR4 and CR0 are else written, so that software
sets and clears PE and PG (60 R515), but for turning PAE on in SMM, which 93 U25 refuses; a CR3 load forgets the walks but,
with CR4.PGE, the global ones; DR4 and DR5 raise #UD with CR4.DE at every CPL, else they are DR6 and DR7; a move of DR0 to
DR3, DR6 or DR7 reads or writes that register and nothing else. Choices: CPL 0 for CR4 is
general knowledge in R39, for the other control registers and the debug registers the model's (log 28); the reserved low
bits of CR3 are stored as written (log 64); the #GP of an illegal CR0, the reserved map of CR0
and CPL 0 after a write of it are log 63; every bit of DR6 and DR7 is kept as written (log 54). -/
def Obligations.ControlRegisterMoves : Prop :=
  ∀ (r : RegNum) (len : Nat) (s : State),
    let past := s.eip + BitVec.ofNat 32 len
    let v := s.r32 r
    let badCr0 := v &&& cr0Reserved ≠ 0 ∨ (v.getLsbD 31 = true ∧ v.getLsbD 0 = false) ∨
      (v.getLsbD 29 = true ∧ v.getLsbD 30 = false)
    (s.cplNow ≠ 0 → ∀ b ∈ [BaseOp.movToCr0 r, .movFromCr0 r, .movToCr2 r, .movFromCr2 r, .movToCr3 r, .movFromCr3 r,
      .movToCr4 r, .movFromCr4 r], execBase [] b len s = takeException .gp s) ∧
    (v &&& cr4Reserved s.cfg ≠ 0 → execBase [] (.movToCr4 r) len s = takeException .gp s) ∧
    (badCr0 → execBase [] (.movToCr0 r) len s = takeException .gp s) ∧
    (s.cplNow = 0 →
      (v &&& cr4Reserved s.cfg = 0 → (s.inSmm = false ∨ v.getLsbD 5 = false ∨ s.pae = true) →
        execBase [] (.movToCr4 r) len s = .next { s with cr4 := v, eip := past }) ∧
      (v &&& cr4Reserved s.cfg = 0 → s.inSmm = true → v.getLsbD 5 = true → s.pae = false →
        execBase [] (.movToCr4 r) len s = .refused .paeInSmm) ∧
      (¬badCr0 → (s.inSmm = false ∨ v.getLsbD 31 = false ∨ s.pg = true ∨ s.pae = false) →
        execBase [] (.movToCr0 r) len s = .next { s with cr0 := v, cpl := 0, eip := past }) ∧
      (¬badCr0 → s.inSmm = true → v.getLsbD 31 = true → s.pg = false → s.pae = true →
        execBase [] (.movToCr0 r) len s = .refused .paeInSmm) ∧
      (∃ u, execBase [] (.movToCr3 r) len s = .next u ∧ u.cr3 = v ∧
        (∀ e, e ∈ u.tlb ↔ e ∈ s.tlb ∧ s.pge = true ∧ e.global = true) ∧
        u = { s with cr3 := u.cr3, tlb := u.tlb, eip := past }) ∧
      execBase [] (.movToCr2 r) len s = .next { s with cr2 := v, eip := past } ∧
      execBase [] (.movFromCr0 r) len s = .next { s.setR32 r s.cr0 with eip := past } ∧
      execBase [] (.movFromCr2 r) len s = .next { s.setR32 r s.cr2 with eip := past } ∧
      execBase [] (.movFromCr3 r) len s = .next { s.setR32 r s.cr3 with eip := past } ∧
      execBase [] (.movFromCr4 r) len s = .next { s.setR32 r s.cr4 with eip := past }) ∧
    (s.cplNow ≠ 0 → ∀ n : RegNum, (s.de = false ∨ n ≠ 4 ∧ n ≠ 5) →
      execBase [] (.movFromDr n r) len s = takeException .gp s ∧ execBase [] (.movToDr n r) len s = takeException .gp s) ∧
    (s.cplNow = 0 → ∀ c ∈ ([(0, s.dr.dr0, { s.dr with dr0 := v }), (1, s.dr.dr1, { s.dr with dr1 := v }),
        (2, s.dr.dr2, { s.dr with dr2 := v }), (3, s.dr.dr3, { s.dr with dr3 := v }),
        (6, s.dr.dr6, { s.dr with dr6 := v }), (7, s.dr.dr7, { s.dr with dr7 := v })] : List (RegNum × Dword × DebugRegs)),
      execBase [] (.movFromDr c.1 r) len s = .next { s.setR32 r c.2.1 with eip := past } ∧
      execBase [] (.movToDr c.1 r) len s = .next { s with dr := c.2.2, eip := past }) ∧
    (s.de = true → ∀ n ∈ ([4, 5] : List RegNum), execBase [] (.movFromDr n r) len s = takeException .ud s ∧
      execBase [] (.movToDr n r) len s = takeException .ud s) ∧
    (s.de = false → s.cplNow = 0 →
      execBase [] (.movFromDr 4 r) len s = .next { s.setR32 r s.dr.dr6 with eip := past } ∧
      execBase [] (.movFromDr 5 r) len s = .next { s.setR32 r s.dr.dr7 with eip := past } ∧
      execBase [] (.movToDr 4 r) len s = .next { s with dr := { s.dr with dr6 := v }, eip := past } ∧
      execBase [] (.movToDr 5 r) len s = .next { s with dr := { s.dr with dr7 := v }, eip := past })

/-! ## Encoding -/

/-- A word of several families, written out from its encoding, decodes to the instruction it stands for (30_encoding
R142, R145, R151, R157, R164, R165). -/
def Obligations.DecodeWords : Prop :=
  decode true [0x0F, 0xFC, 0xCA] = .instr (.paddb [] 1 (.reg 2)) ∧
  decode true [0x0F, 0x71, 0xF1, 0x04] = .instr (.psllwImm [] 1 4) ∧
  decode true [0x0F, 0x6F, 0x04, 0x83] = .instr (.movqLoad [] 0 (.mem (.sib 2 0 3 .none))) ∧
  decode true [0x0F, 0x7E, 0x0B] = .instr (.movdStore [] 1 (.mem (.based32 3 .none))) ∧
  decode true [0x66, 0x0F, 0x44, 0xC3] = .instr (.cmove [.opSize] 0 (.reg 3)) ∧
  decode true [0xF0, 0x0F, 0xC7, 0x0E] = .instr (.cmpxchg8b [.lock] (.mem (.based32 6 .none))) ∧
  decode true [0xDB, 0xF1] = .instr (.fcomi [] 1) ∧
  decode false [0x0F, 0x77] = .instr (.emms [])

/-- Decoding undoes encoding for every well-formed instruction at either default size, whatever follows it, and no proper
beginning of an encoding decodes (30_encoding R140 to R166). -/
def Obligations.DecodeEncode : Prop :=
  ∀ (big : Bool) (i : Instr) (rest : List Byte), i.wf big = true →
    decode big (encode i ++ rest) = .instr i ∧ ∀ n < i.length, decode big ((encode i).take n) = .needMore

/-- What the decoder reads as an instruction of at most 15 bytes is well formed, and the bytes it read are that
instruction's encoding: no two encodings of one instruction, no bit dropped (30_encoding R140 to R166). -/
def Obligations.EncodeDecode : Prop :=
  ∀ (big : Bool) (bs : List Byte) (i : Instr), decode big bs = .instr i → i.length ≤ 15 →
    i.wf big = true ∧ encode i = bs.take i.length

/-- The opcode bytes and digits that stand for nothing raise #UD whatever precedes and follows them (30_encoding R167 to
R170, 60 R505): 92_eei D13's choice (log 27), and for the moves of the test registers general knowledge in R170. -/
def Obligations.ReservedOpcodes : Prop :=
  (∀ (big : Bool) (p : List Pfx) (t : List Byte),
    (∀ op ∈ ([0x6C, 0x6D, 0x70, 0x78, 0x79, 0x7A, 0x7B, 0x7C, 0x7D, 0xD0, 0xD4, 0xD6, 0xD7, 0xDA, 0xDE, 0xE0, 0xE3, 0xE4,
        0xE6, 0xE7, 0xEA, 0xEE, 0xF0, 0xF4, 0xF6, 0xF7, 0xFB, 0xFF, 0x24, 0x26] : List Byte),
      decode big (p.map Pfx.byte ++ 0x0F :: op :: t) = .invalid) ∧
    (∀ op ∈ ([0x71, 0x72, 0x73] : List Byte), ∀ b, (modField b ≠ 3 ∨ regField b ∉ [2, 4, 6] ∨
        op = 0x73 ∧ regField b = 4) → decode big (p.map Pfx.byte ++ 0x0F :: op :: b :: t) = .invalid) ∧
    (∀ b, regField b ≠ 1 → decode big (p.map Pfx.byte ++ 0x0F :: 0xC7 :: b :: t) = .invalid)) ∧
  ∀ s, runDecoded .invalid s = takeException .ud s

/-! ## The step -/

/-- With no input and no pending event, a step whose fetch reads instruction `i` is `exec i` from the state the fetch left,
begun as an instruction (with TF clear that changes nothing; with TF set a single step is then pending, 60 R592, log 62),
and then time passes (20_memory R129, 10_state R22, R44). -/
def Obligations.StepRunsDecoded : Prop :=
  ∀ (s t : State) (i : Instr), s.inputs = [] → pendingEvent s = none → s.fetch = .ok (.instr i) t →
    PagingOnly s t ∧ step s = ticked s (exec i t.begun) ∧ t.begun = { t with stepTrap := s.flag bitTF } ∧
    (s.flag bitTF = false → t.begun = t)

/-- With paging off, the encoding of a well-formed instruction standing at CS:EIP within the limit is what a step runs
(20_memory R81, 30_encoding R154). That the bytes that stand in memory when it executes are what is run is 92_eei D12's
choice (20_memory R129, log 42). Bytes that are no whole instruction yet, up to the CS limit or fifteen of them, raise
#GP(0) instead (30_encoding R140, R154, 60 R507; that the sixteenth byte raises #GP(0) is DEDUCED, log 26). -/
def Obligations.StepRunsBytes : Prop :=
  (∀ (s : State) (bs : List Byte), s.inputs = [] → pendingEvent s = none → s.pg = false →
    (∀ k < bs.length, s.segCheck .cs (s.eip + BitVec.ofNat 32 k) 1 false = none ∧
      s.stopAt (s.lin .cs (s.eip + BitVec.ofNat 32 k)).toNat = none ∧
      bs[k]? = some (readByte s.physMem (s.lin .cs (s.eip + BitVec.ofNat 32 k)).toNat) ∧
      decode s.bigCode (bs.take (k + 1)) = .needMore) →
    (bs.length = 15 ∨ bs.length < 15 ∧ s.segCheck .cs (s.eip + BitVec.ofNat 32 bs.length) 1 false ≠ none) →
    step s = ticked s (takeException .gp s)) ∧
  ∀ (s : State) (i : Instr), s.inputs = [] → pendingEvent s = none → s.pg = false → i.wf s.bigCode = true →
    (∀ k < i.length, s.segCheck .cs (s.eip + BitVec.ofNat 32 k) 1 false = none ∧
      s.stopAt (s.lin .cs (s.eip + BitVec.ofNat 32 k)).toNat = none ∧
      (encode i)[k]? = some (readByte s.physMem (s.lin .cs (s.eip + BitVec.ofNat 32 k)).toNat)) →
    step s = ticked s (exec i s.begun)

/-- Every step keeps the invariant: both memories in canonical form, the fixed bits of EFLAGS, the reserved bits of CR4
and CESR, and on P5 the alignment of SMBASE (10_state R23, R38, R46, R47). -/
def Obligations.InvStep : Prop := ∀ (s t : State), Inv s → step s = .next t → Inv t

/-- The invariant holds after reset. -/
def Obligations.InvReset : Prop := Inv State.reset

/-- After reset SMBASE is 30000h (10_state R47); the registers hold the values of 70_reset R602 and the hidden state those of
R606, which the spec marks as its own (log 2). That haltedAtSmi is false and ioRestartEip absent, which R606 calls meaningless
outside SMM, is the model's choice (log 15), and so is that no single step (log 62) and no INTR# request (log 12) is pending.
The FPU data registers, 0, are the model's choice (log 3), and so are CPL 0
and no remembered walk whatever the parameter `ResetState` holds (log 2). -/
def Obligations.ResetValues : Prop :=
  let r := State.reset
  r.smbase = 0x30000 ∧ r.mode = .real ∧ r.cplNow = 0 ∧ r.eip = 0xFFF0 ∧ r.lin .cs r.eip = 0xFFFFFFF0 ∧ r.eflags = 2 ∧
  (∀ q, r.r32 q = if q = rEDX then r.cfg.signature else 0) ∧
  (∀ g ∈ [r.segs.ds, r.segs.es, r.segs.fs, r.segs.gs, r.segs.ss], g.sel = 0 ∧ g.base = 0 ∧ g.limit = 0xFFFF) ∧
  (r.segs.cs.sel = 0xF000 ∧ r.segs.cs.base = 0xFFFF0000 ∧ r.segs.cs.limit = 0xFFFF) ∧
  (r.gdtr = ⟨0, 0xFFFF⟩ ∧ r.idtr = ⟨0, 0xFFFF⟩ ∧ r.ldtr = ⟨0, 0, 0xFFFF⟩ ∧ r.tr = ⟨0, 0, 0xFFFF⟩) ∧
  (r.cr0 = 0x60000010 ∧ r.cr2 = 0 ∧ r.cr3 = 0 ∧ r.cr4 = 0) ∧ r.dr = ⟨0, 0, 0, 0, 0xFFFF0FF0, 0x400⟩ ∧
  (∀ q : RegNum, r.fpr[q.toNat] = 0) ∧ (r.fcw = 0x40 ∧ r.fsw = 0 ∧ r.ftw = 0x5555 ∧ r.fpuPending = false) ∧
  (r.tsc = 0 ∧ r.cesr = 0 ∧ r.ctr0 = 0 ∧ r.ctr1 = 0) ∧
  (r.inSmm = false ∧ r.smiLatched = false ∧ r.nmiLatched = false ∧ r.nmiBlocked = false ∧ r.a20mBlocked = false) ∧
  (r.halted = false ∧ r.shutdown = false ∧ r.haltedAtSmi = false ∧ r.ioRestartEip = none ∧ r.intrLine = none) ∧
  r.stepTrap = false ∧ r.tlb = [] ∧ ∀ c : Config, (State.resetOf c).cpl = 0 ∧ (State.resetOf c).tlb = []

/-- Shutdown is a stuck state: without an input, and with SMI#, FLUSH#, A20M# or a change of INTR#, a step changes nothing
but the counters, the input and INTR# (60 R570). RESET# ends it and leaves `ResetState` with SMBASE = 30000h (70_reset
R601, 10_state R51), INIT# ends it, NMI# ends it and is latched (60 R513); after INIT# and NMI# the boundary follows in the
same step. What INIT# keeps, and that NMI# stays latched, is the model's (log 13, log 14); so is it that no remembered walk is
left after RESET# whatever the parameter holds (log 2), and that its hidden state is clear is the spec's own in 70_reset R606
(log 2). That INTR# replaces the vector of a pending request is log 12. -/
def Obligations.ShutdownIsStuck : Prop :=
  ∀ (s : State), s.shutdown = true →
    (s.inputs = [] →
      ∃ w, step s = .next w ∧ w = { s with tsc := w.tsc, ctr0 := w.ctr0, ctr1 := w.ctr1, draws := w.draws }) ∧
    ∀ (i : Input) (rest : List (Option Input)), s.inputs = some i :: rest →
      let q := { s with inputs := rest }
      ((∀ v, i ≠ .intr v) → i ≠ .reset → i ≠ .init → i ≠ .nmi → ∃ w, step s = .next w ∧
        w = { q with
          intrLine := w.intrLine, tsc := w.tsc, ctr0 := w.ctr0, ctr1 := w.ctr1, draws := w.draws } ∧
        (i ≠ .intrOff → w.intrLine = s.intrLine)) ∧
      (∀ v, i = .intr v → ∃ w, step s = .next w ∧
        w = { q with
          intrLine := some v, tsc := w.tsc, ctr0 := w.ctr0, ctr1 := w.ctr1, draws := w.draws }) ∧
      (i = .reset → ∃ w, step s = .next w ∧ w.shutdown = false ∧ w.halted = false ∧ w.inSmm = false ∧
        w.smbase = 0x30000 ∧ w.gpr = s.cfg.resetState.gpr ∧ w.eip = s.cfg.resetState.eip ∧
        w.segs = s.cfg.resetState.segs ∧ w.cr0 = s.cfg.resetState.cr0 ∧ w.tlb = [] ∧ w.mem = s.mem ∧ w.smram = s.smram ∧
        w.cfg = s.cfg ∧ w.inputs = rest) ∧
      (i = .init → step s = boundary (q.absorb .init) ∧ (q.absorb .init).shutdown = false ∧
        (q.absorb .init).fpr = s.fpr ∧ (q.absorb .init).tsc = s.tsc ∧ (q.absorb .init).smbase = s.smbase ∧
        (q.absorb .init).mem = s.mem) ∧
      (i = .nmi → step s = boundary { q with nmiLatched := true, shutdown := false })

/-- TSC grows in every step that takes no input and does not run WRMSR: by at least 1 and at most 2^32 (10_state R44, 46
R358; the size of the growth is the model's free value, log 32). In such a step a counter keeps its value with CC = 000 or
100, and with a described event number when the CPL its CC field asks for held neither before nor after the step (10_state
R46, 60 R591; what else it does is free, log 32; which event numbers are described on P6 is log 53). -/
def Obligations.TscIncreases : Prop :=
  ∀ (s t : State), s.inputs = [] → (∀ p u, s.fetch ≠ .ok (.instr (.wrmsr p)) u) → step s = .next t →
    (∃ d : Nat, d < 2 ^ 32 ∧ t.tsc = s.tsc + BitVec.ofNat 64 (d + 1)) ∧
    ∀ c ∈ [(false, s.cesr.extractLsb' 6 3, s.cesr.extractLsb' 0 6, s.ctr0, t.ctr0),
        (true, s.cesr.extractLsb' 22 3, s.cesr.extractLsb' 16 6, s.ctr1, t.ctr1)],
      let cc : BitVec 3 := c.2.1
      let described := eventDefined s.cfg c.1 (c.2.2.1 : BitVec 6).toNat = true
      (cc = 0 ∨ cc = 4 → c.2.2.2.2 = c.2.2.2.1) ∧
      (cc = 1 ∨ cc = 5 → described → s.cplNow = 3 → t.cplNow = 3 → c.2.2.2.2 = c.2.2.2.1) ∧
      (cc = 2 ∨ cc = 6 → described → s.cplNow ≠ 3 → t.cplNow ≠ 3 → c.2.2.2.2 = c.2.2.2.1)
end

