-- ==== Sys2Proof/Laws/Decode.lean ====
section
/-! SUPPORT. The decoder's parts undo the encoder's parts. -/

namespace Sys2Proof.Laws

/-! ## Fields of a byte -/

theorem modField_fieldByte (m : BitVec 2) (r x : RegNum) : modField (fieldByte m r x) = m := by
  revert m r x; decide +kernel

theorem regField_fieldByte (m : BitVec 2) (r x : RegNum) : regField (fieldByte m r x) = r := by
  revert m r x; decide +kernel

theorem rmField_fieldByte (m : BitVec 2) (r x : RegNum) : rmField (fieldByte m r x) = x := by
  revert m r x; decide +kernel

theorem fieldByte_fields (b : Byte) : fieldByte (modField b) (regField b) (rmField b) = b := by
  revert b; decide +kernel

/-! ## The bytes before the opcode -/

theorem ofByte_byte (p : Pfx) : Pfx.ofByte p.byte = some p := by
  cases p with
  | seg s => cases s <;> decide
  | _ => decide

theorem takePfx_map (p : List Pfx) (b : Byte) (t : List Byte) (h : Pfx.ofByte b = none) :
    takePfx (p.map Pfx.byte ++ b :: t) = (p, b :: t) := by
  induction p with
  | nil => simp [takePfx, h]
  | cons q u ih => simp [takePfx, ofByte_byte, ih]

/-! ## Displacements -/

theorem take16_bytes16 (v : Word16) (t : List Byte) : take16 (bytes16 v ++ t) = some (v, t) := by
  have : word16 (byteOf 16 v 0) (byteOf 16 v 1) = v := by
    apply BitVec.eq_of_getLsbD_eq
    intro i hi
    unfold word16
    rw [BitVec.getLsbD_append]
    by_cases h : i < 8
    · simp [byteOf, h]
    · have e : 8 + (i - 8) = i := by omega
      have l : i - 8 < 8 := by omega
      simp [byteOf, h, e, l]
  simp [bytes16, take16, this]

theorem take32_bytes32 (v : Dword) (t : List Byte) : take32 (bytes32 v ++ t) = some (v, t) := by
  have : dword (byteOf 32 v 0) (byteOf 32 v 1) (byteOf 32 v 2) (byteOf 32 v 3) = v := by
    apply BitVec.eq_of_getLsbD_eq
    intro i hi
    unfold dword
    rw [BitVec.getLsbD_append, BitVec.getLsbD_append, BitVec.getLsbD_append]
    by_cases h : i < 8
    · simp [byteOf, h]
    · by_cases h₂ : i < 16
      · have e : 8 + (i - 8) = i := by omega
        have l : i - 8 < 8 := by omega
        simp [byteOf, h, e, l]
      · by_cases h₃ : i < 24
        · have e : 16 + (i - 8 - 8) = i := by omega
          have l₁ : ¬ i - 8 < 8 := by omega
          have l : i - 8 - 8 < 8 := by omega
          simp [byteOf, h, e, l, l₁]
        · have e : 24 + (i - 8 - 8 - 8) = i := by omega
          have l₁ : ¬ i - 8 < 8 := by omega
          have l₂ : ¬ i - 8 - 8 < 8 := by omega
          have l : i - 8 - 8 - 8 < 8 := by omega
          simp [byteOf, h, e, l, l₁, l₂]
  simp [bytes32, take32, this]

theorem takeDisp16_bytes (d : Disp16) (t : List Byte) : takeDisp16 d.mod (d.bytes ++ t) = some (d, t) := by
  cases d with
  | none => rfl
  | d8 d => rfl
  | d16 d => simp [takeDisp16, Disp16.mod, Disp16.bytes, take16_bytes16]

theorem takeDisp32_bytes (d : Disp32) (t : List Byte) : takeDisp32 d.mod (d.bytes ++ t) = some (d, t) := by
  cases d with
  | none => rfl
  | d8 d => rfl
  | d32 d => simp [takeDisp32, Disp32.mod, Disp32.bytes, take32_bytes32]

/-! ## ModR/M -/

/-- The ModR/M bytes of an operand that its address size can encode give it back (30_encoding R150 to R153). -/
theorem takeRm_encode (wide : Bool) (reg : RegNum) (x : Rm) (t : List Byte) (h : x.wf wide = true) :
    takeRm wide (x.encode reg ++ t) = some (reg, x, t) := by
  cases x with
  | reg r => simp [Rm.encode, takeRm, modField_fieldByte, regField_fieldByte, rmField_fieldByte]
  | mem m =>
    simp only [Rm.wf, Bool.and_eq_true, beq_iff_eq] at h
    obtain ⟨rfl, hc⟩ := h
    cases m with
    | based16 rm disp =>
      have hm : ¬disp.mod = 3#2 := by cases disp <;> simp [Disp16.mod]
      have hz : ¬(disp.mod = 0#2 ∧ rm = 6#3) := by
        rintro ⟨e, rfl⟩
        cases disp <;> simp_all [Disp16.mod, Mem.canonical]
      simp [Rm.encode, Mem.encode, takeRm, modField_fieldByte, regField_fieldByte, rmField_fieldByte, hm, Mem.wide,
        takeMem16, hz, takeDisp16_bytes]
    | abs16 d =>
      simp [Rm.encode, Mem.encode, takeRm, modField_fieldByte, regField_fieldByte, rmField_fieldByte, Mem.wide,
        takeMem16, take16_bytes16]
    | based32 base disp =>
      have hm : ¬disp.mod = 3#2 := by cases disp <;> simp [Disp32.mod]
      have h4 : ¬base = 4#3 := by
        rintro rfl
        simp [Mem.canonical] at hc
      have hz : ¬(disp.mod = 0#2 ∧ base = 5#3) := by
        rintro ⟨e, rfl⟩
        cases disp <;> simp_all [Disp32.mod, Mem.canonical]
      simp [Rm.encode, Mem.encode, takeRm, modField_fieldByte, regField_fieldByte, rmField_fieldByte, hm, Mem.wide,
        takeMem32, h4, hz, takeDisp32_bytes]
    | abs32 d =>
      simp [Rm.encode, Mem.encode, takeRm, modField_fieldByte, regField_fieldByte, rmField_fieldByte, Mem.wide,
        takeMem32, take32_bytes32]
    | sib scale index base disp =>
      have hm : ¬disp.mod = 3#2 := by cases disp <;> simp [Disp32.mod]
      have hz : ¬(disp.mod = 0#2 ∧ base = 5#3) := by
        rintro ⟨e, rfl⟩
        cases disp <;> simp_all [Disp32.mod, Mem.canonical]
      simp [Rm.encode, Mem.encode, takeRm, modField_fieldByte, regField_fieldByte, rmField_fieldByte, hm, Mem.wide,
        takeMem32, hz, takeDisp32_bytes]
    | sibNoBase scale index d =>
      simp [Rm.encode, Mem.encode, takeRm, modField_fieldByte, regField_fieldByte, rmField_fieldByte, Mem.wide,
        takeMem32, take32_bytes32]

end Sys2Proof.Laws
end

