-- ==== Sys2Proof/Laws/Memory.lean ====
section
/-! SUPPORT. Memory keeps its canonical form; a byte reads back what was written and no write touches another; bytes and
values. -/

namespace Sys2Proof.Machine

/-! ## The canonical form -/

/-- Every address of a written memory is the written one or was there. -/
theorem writeByte_addr (m : Memory) (a : Nat) (v : Byte) (c : Host.Cell) (h : c ∈ writeByte m a v) :
    c.1 = a ∨ c ∈ m := by
  induction m with
  | nil => unfold writeByte at h; split at h <;> simp_all
  | cons x t ih =>
    obtain ⟨x, u⟩ := x
    unfold writeByte at h
    split at h
    · split at h <;> simp_all
      rcases h with h | h | h <;> simp [h]
    · split at h
      · split at h
        · simp [h]
        · simp only [List.mem_cons] at h ⊢
          rcases h with h | h <;> simp [h]
      · simp only [List.mem_cons] at h ⊢
        rcases h with h | h
        · simp [h]
        · rcases ih h with h | h <;> simp [h]

theorem writeByte_wf (m : Memory) (a : Nat) (v : Byte) (h : Memory.wf m) : Memory.wf (writeByte m a v) := by
  induction m with
  | nil =>
    unfold writeByte
    split <;> simp_all [Memory.wf]
  | cons x t ih =>
    obtain ⟨x, u⟩ := x
    obtain ⟨hp, hn⟩ := h
    rw [List.pairwise_cons] at hp
    have ht : Memory.wf t := ⟨hp.2, fun c hc => hn c (List.mem_cons_of_mem _ hc)⟩
    unfold writeByte
    split
    · rename_i lt
      split
      · exact ⟨List.pairwise_cons.2 hp, hn⟩
      · rename_i nz
        refine ⟨List.pairwise_cons.2 ⟨?_, List.pairwise_cons.2 hp⟩, ?_⟩
        · intro c hc
          rcases List.mem_cons.1 hc with rfl | hc
          · exact lt
          · exact Nat.lt_trans lt (hp.1 c hc)
        · intro c hc
          rcases List.mem_cons.1 hc with rfl | hc
          · exact nz
          · exact hn c hc
    · rename_i nlt
      split
      · rename_i eq
        split
        · exact ht
        · rename_i nz
          subst eq
          refine ⟨List.pairwise_cons.2 ⟨hp.1, hp.2⟩, ?_⟩
          intro c hc
          rcases List.mem_cons.1 hc with rfl | hc
          · exact nz
          · exact hn c (List.mem_cons_of_mem _ hc)
      · rename_i ne
        have hw := ih ht
        refine ⟨List.pairwise_cons.2 ⟨?_, hw.1⟩, ?_⟩
        · intro c hc
          rcases writeByte_addr t a v c hc with e | hc
          · show x < c.1
            omega
          · exact hp.1 c hc
        · intro c hc
          rcases List.mem_cons.1 hc with rfl | hc
          · exact hn _ List.mem_cons_self
          · exact hw.2 c hc

theorem writeBytes_wf (m : Memory) (cs : List (Nat × Byte)) (h : Memory.wf m) : Memory.wf (writeBytes m cs) := by
  induction cs generalizing m with
  | nil => exact h
  | cons c t ih => exact ih _ (writeByte_wf m c.1 c.2 h)

theorem reset_mem_wf : Memory.wf State.reset.mem ∧ Memory.wf State.reset.smram := by decide

theorem setPhysMem_wf (s : State) (m : Memory) (h : Memory.wf s.mem) (h' : Memory.wf s.smram) (hm : Memory.wf m) :
    Memory.wf (s.setPhysMem m).mem ∧ Memory.wf (s.setPhysMem m).smram := by
  unfold State.setPhysMem
  split
  · exact ⟨h, hm⟩
  · exact ⟨hm, h'⟩

theorem physMem_wf (s : State) (h : Memory.wf s.mem) (h' : Memory.wf s.smram) : Memory.wf s.physMem := by
  unfold State.physMem
  split <;> assumption

/-! ## Read after write -/

/-- Below every listed address memory reads blank. -/
theorem readByte_below (m : Memory) (a : Nat) (h : ∀ c ∈ m, a < c.1) : readByte m a = blankByte := by
  cases m with
  | nil => rfl
  | cons x t =>
    obtain ⟨x, u⟩ := x
    have := h (x, u) List.mem_cons_self
    simp_all [readByte]

theorem readByte_writeByte (m : Memory) (a b : Nat) (v : Byte) (h : Memory.wf m) :
    readByte (writeByte m a v) b = if b = a then v else readByte m b := by
  induction m with
  | nil =>
    unfold writeByte
    split
    · rename_i e
      split <;> simp_all [readByte]
    · by_cases e : b = a
      · simp [readByte, e]
      · simp [readByte, e]
  | cons x t ih =>
    obtain ⟨x, u⟩ := x
    obtain ⟨hp, hn⟩ := h
    rw [List.pairwise_cons] at hp
    have ht : Memory.wf t := ⟨hp.2, fun c hc => hn c (List.mem_cons_of_mem _ hc)⟩
    have hb : ∀ y, y ≤ x → readByte t y = blankByte := fun y hy =>
      readByte_below t y fun c hc => Nat.lt_of_le_of_lt hy (hp.1 c hc)
    unfold writeByte
    by_cases c1 : a < x
    · by_cases vz : v = blankByte
      · by_cases e : b = a
        · simp [c1, vz, e, readByte]
        · simp [c1, vz, e, readByte]
      · by_cases e : b = a
        · simp [c1, vz, e, readByte]
        · by_cases l : b < a
          · have : b < x := by omega
            simp [c1, vz, e, readByte, l, this]
          · simp [c1, vz, e, readByte, l]
    · by_cases c2 : a = x
      · subst c2
        by_cases vz : v = blankByte
        · by_cases e : b = a
          · simp [vz, e, hb a (Nat.le_refl _)]
          · by_cases l : b < a
            · simp [vz, e, readByte, l, hb b (Nat.le_of_lt l)]
            · simp [vz, e, readByte, l]
        · by_cases e : b = a
          · simp [vz, e, readByte]
          · by_cases l : b < a
            · simp [vz, e, readByte, l]
            · simp [vz, e, readByte, l]
      · simp only [c1, c2, if_false]
        unfold readByte
        rw [ih ht]
        by_cases l : b < x
        · have : b ≠ a := by omega
          simp [l, this]
        · by_cases e : b = x
          · have : x ≠ a := fun h => c2 h.symm
            simp [e, this]
          · simp [l, e]

/-- Bytes at other addresses keep their value. -/
theorem readByte_writeBytes_ne (m : Memory) (cs : List (Nat × Byte)) (b : Nat) (h : Memory.wf m)
    (hb : ∀ c ∈ cs, c.1 ≠ b) : readByte (writeBytes m cs) b = readByte m b := by
  induction cs generalizing m with
  | nil => rfl
  | cons c t ih =>
    show readByte (writeBytes (writeByte m c.1 c.2) t) b = _
    rw [ih _ (writeByte_wf m c.1 c.2 h) fun d hd => hb d (List.mem_cons_of_mem _ hd),
      readByte_writeByte _ _ _ _ h]
    have := hb c List.mem_cons_self
    simp [Ne.symm this]

/-- Bytes written at distinct addresses read back. -/
theorem readBytes_writeBytes (m : Memory) (as : List Nat) (bs : List Byte) (h : Memory.wf m) (hn : as.Nodup)
    (hl : as.length = bs.length) : readBytes (writeBytes m (as.zip bs)) as = bs := by
  induction as generalizing m bs with
  | nil => cases bs <;> simp_all [readBytes]
  | cons a t ih =>
    cases bs with
    | nil => simp at hl
    | cons b u =>
      obtain ⟨hna, hnt⟩ := List.nodup_cons.1 hn
      have hw := writeByte_wf m a b h
      have ht := ih (writeByte m a b) u hw hnt (by simpa using hl)
      simp only [readBytes, List.map_cons, List.zip_cons_cons, writeBytes] at ht ⊢
      rw [ht, readByte_writeBytes_ne _ _ _ hw, readByte_writeByte _ _ _ _ h]
      · simp
      · intro c hc e
        exact hna (e ▸ (List.of_mem_zip hc).1)

/-! ## Values and bytes -/

@[simp] theorem leBytes_length {w : Nat} (n : Nat) (v : BitVec w) : (leBytes n v).length = n := by
  simp [leBytes]

/-- Bit `i` of a value is bit `i % 8` of byte `i / 8`. -/
theorem getLsbD_leValue (w : Nat) (bs : List Byte) (i : Nat) (h : i < w) :
    (leValue w bs).getLsbD i = (bs.getD (i / 8) 0).getLsbD (i % 8) := by
  induction bs generalizing i with
  | nil => simp [leValue]
  | cons b t ih =>
    simp only [leValue, BitVec.getLsbD_or, BitVec.getLsbD_shiftLeft, BitVec.getLsbD_setWidth]
    by_cases l : i < 8
    · have e1 : i / 8 = 0 := by omega
      have e2 : i % 8 = i := by omega
      simp [l, h, e1, e2]
    · have e1 : i / 8 = (i - 8) / 8 + 1 := by omega
      have e2 : i % 8 = (i - 8) % 8 := by omega
      have := ih (i - 8) (by omega)
      rw [this, e1, e2]
      simp [l, h, BitVec.getLsbD_of_ge b i (by omega)]

/-- The bytes of a value give it back (20_memory R80). -/
theorem leValue_leBytes {w : Nat} (n : Nat) (v : BitVec w) (h : w ≤ 8 * n) : leValue w (leBytes n v) = v := by
  apply BitVec.eq_of_getLsbD_eq
  intro i hi
  have k : i / 8 < n := by omega
  have e : 8 * (i / 8) + i % 8 = i := by omega
  rw [getLsbD_leValue _ _ _ hi]
  simp [leBytes, List.getD, k, e, Nat.mod_lt]

end Sys2Proof.Machine
end

