-- ==== Sys2Proof/Laws/State.lean ====
section
/-! SUPPORT. One lemma per field per update of State, true by rfl, so that no proof unfolds a record update; the
registers read back after a write; what sees only some fields. -/

namespace Sys2Proof.Machine

/-! ## setR32 -/

@[simp] theorem State.setR32_cfg (s : State) (n : RegNum) (v : Dword) : (s.setR32 n v).cfg = s.cfg := rfl
@[simp] theorem State.setR32_gpr (s : State) (n : RegNum) (v : Dword) : (s.setR32 n v).gpr = s.gpr.set n.toNat v n.isLt := rfl
@[simp] theorem State.setR32_eip (s : State) (n : RegNum) (v : Dword) : (s.setR32 n v).eip = s.eip := rfl
@[simp] theorem State.setR32_eflags (s : State) (n : RegNum) (v : Dword) : (s.setR32 n v).eflags = s.eflags := rfl
@[simp] theorem State.setR32_segs (s : State) (n : RegNum) (v : Dword) : (s.setR32 n v).segs = s.segs := rfl
@[simp] theorem State.setR32_cpl (s : State) (n : RegNum) (v : Dword) : (s.setR32 n v).cpl = s.cpl := rfl
@[simp] theorem State.setR32_ldtr (s : State) (n : RegNum) (v : Dword) : (s.setR32 n v).ldtr = s.ldtr := rfl
@[simp] theorem State.setR32_tr (s : State) (n : RegNum) (v : Dword) : (s.setR32 n v).tr = s.tr := rfl
@[simp] theorem State.setR32_gdtr (s : State) (n : RegNum) (v : Dword) : (s.setR32 n v).gdtr = s.gdtr := rfl
@[simp] theorem State.setR32_idtr (s : State) (n : RegNum) (v : Dword) : (s.setR32 n v).idtr = s.idtr := rfl
@[simp] theorem State.setR32_cr0 (s : State) (n : RegNum) (v : Dword) : (s.setR32 n v).cr0 = s.cr0 := rfl
@[simp] theorem State.setR32_cr2 (s : State) (n : RegNum) (v : Dword) : (s.setR32 n v).cr2 = s.cr2 := rfl
@[simp] theorem State.setR32_cr3 (s : State) (n : RegNum) (v : Dword) : (s.setR32 n v).cr3 = s.cr3 := rfl
@[simp] theorem State.setR32_cr4 (s : State) (n : RegNum) (v : Dword) : (s.setR32 n v).cr4 = s.cr4 := rfl
@[simp] theorem State.setR32_dr (s : State) (n : RegNum) (v : Dword) : (s.setR32 n v).dr = s.dr := rfl
@[simp] theorem State.setR32_fpr (s : State) (n : RegNum) (v : Dword) : (s.setR32 n v).fpr = s.fpr := rfl
@[simp] theorem State.setR32_fcw (s : State) (n : RegNum) (v : Dword) : (s.setR32 n v).fcw = s.fcw := rfl
@[simp] theorem State.setR32_fsw (s : State) (n : RegNum) (v : Dword) : (s.setR32 n v).fsw = s.fsw := rfl
@[simp] theorem State.setR32_ftw (s : State) (n : RegNum) (v : Dword) : (s.setR32 n v).ftw = s.ftw := rfl
@[simp] theorem State.setR32_tsc (s : State) (n : RegNum) (v : Dword) : (s.setR32 n v).tsc = s.tsc := rfl
@[simp] theorem State.setR32_cesr (s : State) (n : RegNum) (v : Dword) : (s.setR32 n v).cesr = s.cesr := rfl
@[simp] theorem State.setR32_ctr0 (s : State) (n : RegNum) (v : Dword) : (s.setR32 n v).ctr0 = s.ctr0 := rfl
@[simp] theorem State.setR32_ctr1 (s : State) (n : RegNum) (v : Dword) : (s.setR32 n v).ctr1 = s.ctr1 := rfl
@[simp] theorem State.setR32_smbase (s : State) (n : RegNum) (v : Dword) : (s.setR32 n v).smbase = s.smbase := rfl
@[simp] theorem State.setR32_inSmm (s : State) (n : RegNum) (v : Dword) : (s.setR32 n v).inSmm = s.inSmm := rfl
@[simp] theorem State.setR32_smiLatched (s : State) (n : RegNum) (v : Dword) : (s.setR32 n v).smiLatched = s.smiLatched := rfl
@[simp] theorem State.setR32_nmiLatched (s : State) (n : RegNum) (v : Dword) : (s.setR32 n v).nmiLatched = s.nmiLatched := rfl
@[simp] theorem State.setR32_nmiBlocked (s : State) (n : RegNum) (v : Dword) : (s.setR32 n v).nmiBlocked = s.nmiBlocked := rfl
@[simp] theorem State.setR32_a20mBlocked (s : State) (n : RegNum) (v : Dword) : (s.setR32 n v).a20mBlocked = s.a20mBlocked := rfl
@[simp] theorem State.setR32_halted (s : State) (n : RegNum) (v : Dword) : (s.setR32 n v).halted = s.halted := rfl
@[simp] theorem State.setR32_shutdown (s : State) (n : RegNum) (v : Dword) : (s.setR32 n v).shutdown = s.shutdown := rfl
@[simp] theorem State.setR32_haltedAtSmi (s : State) (n : RegNum) (v : Dword) : (s.setR32 n v).haltedAtSmi = s.haltedAtSmi := rfl
@[simp] theorem State.setR32_ioRestartEip (s : State) (n : RegNum) (v : Dword) : (s.setR32 n v).ioRestartEip = s.ioRestartEip := rfl
@[simp] theorem State.setR32_smmImage (s : State) (n : RegNum) (v : Dword) : (s.setR32 n v).smmImage = s.smmImage := rfl
@[simp] theorem State.setR32_intrLine (s : State) (n : RegNum) (v : Dword) : (s.setR32 n v).intrLine = s.intrLine := rfl
@[simp] theorem State.setR32_mem (s : State) (n : RegNum) (v : Dword) : (s.setR32 n v).mem = s.mem := rfl
@[simp] theorem State.setR32_smram (s : State) (n : RegNum) (v : Dword) : (s.setR32 n v).smram = s.smram := rfl
@[simp] theorem State.setR32_tlb (s : State) (n : RegNum) (v : Dword) : (s.setR32 n v).tlb = s.tlb := rfl
@[simp] theorem State.setR32_inputs (s : State) (n : RegNum) (v : Dword) : (s.setR32 n v).inputs = s.inputs := rfl
@[simp] theorem State.setR32_draws (s : State) (n : RegNum) (v : Dword) : (s.setR32 n v).draws = s.draws := rfl
@[simp] theorem State.setR32_stepTrap (s : State) (n : RegNum) (v : Dword) : (s.setR32 n v).stepTrap = s.stepTrap := rfl
@[simp] theorem State.setR32_lastExn (s : State) (n : RegNum) (v : Dword) : (s.setR32 n v).lastExn = s.lastExn := rfl
@[simp] theorem State.setR32_deliveryExn (s : State) (n : RegNum) (v : Dword) : (s.setR32 n v).deliveryExn = s.deliveryExn := rfl

/-! ## setR16 -/

@[simp] theorem State.setR16_cfg (s : State) (n : RegNum) (v : Word16) : (s.setR16 n v).cfg = s.cfg := rfl
@[simp] theorem State.setR16_gpr (s : State) (n : RegNum) (v : Word16) : (s.setR16 n v).gpr = s.gpr.set n.toNat ((s.r32 n).extractLsb' 16 16 ++ v) n.isLt := rfl
@[simp] theorem State.setR16_eip (s : State) (n : RegNum) (v : Word16) : (s.setR16 n v).eip = s.eip := rfl
@[simp] theorem State.setR16_eflags (s : State) (n : RegNum) (v : Word16) : (s.setR16 n v).eflags = s.eflags := rfl
@[simp] theorem State.setR16_segs (s : State) (n : RegNum) (v : Word16) : (s.setR16 n v).segs = s.segs := rfl
@[simp] theorem State.setR16_cpl (s : State) (n : RegNum) (v : Word16) : (s.setR16 n v).cpl = s.cpl := rfl
@[simp] theorem State.setR16_ldtr (s : State) (n : RegNum) (v : Word16) : (s.setR16 n v).ldtr = s.ldtr := rfl
@[simp] theorem State.setR16_tr (s : State) (n : RegNum) (v : Word16) : (s.setR16 n v).tr = s.tr := rfl
@[simp] theorem State.setR16_gdtr (s : State) (n : RegNum) (v : Word16) : (s.setR16 n v).gdtr = s.gdtr := rfl
@[simp] theorem State.setR16_idtr (s : State) (n : RegNum) (v : Word16) : (s.setR16 n v).idtr = s.idtr := rfl
@[simp] theorem State.setR16_cr0 (s : State) (n : RegNum) (v : Word16) : (s.setR16 n v).cr0 = s.cr0 := rfl
@[simp] theorem State.setR16_cr2 (s : State) (n : RegNum) (v : Word16) : (s.setR16 n v).cr2 = s.cr2 := rfl
@[simp] theorem State.setR16_cr3 (s : State) (n : RegNum) (v : Word16) : (s.setR16 n v).cr3 = s.cr3 := rfl
@[simp] theorem State.setR16_cr4 (s : State) (n : RegNum) (v : Word16) : (s.setR16 n v).cr4 = s.cr4 := rfl
@[simp] theorem State.setR16_dr (s : State) (n : RegNum) (v : Word16) : (s.setR16 n v).dr = s.dr := rfl
@[simp] theorem State.setR16_fpr (s : State) (n : RegNum) (v : Word16) : (s.setR16 n v).fpr = s.fpr := rfl
@[simp] theorem State.setR16_fcw (s : State) (n : RegNum) (v : Word16) : (s.setR16 n v).fcw = s.fcw := rfl
@[simp] theorem State.setR16_fsw (s : State) (n : RegNum) (v : Word16) : (s.setR16 n v).fsw = s.fsw := rfl
@[simp] theorem State.setR16_ftw (s : State) (n : RegNum) (v : Word16) : (s.setR16 n v).ftw = s.ftw := rfl
@[simp] theorem State.setR16_tsc (s : State) (n : RegNum) (v : Word16) : (s.setR16 n v).tsc = s.tsc := rfl
@[simp] theorem State.setR16_cesr (s : State) (n : RegNum) (v : Word16) : (s.setR16 n v).cesr = s.cesr := rfl
@[simp] theorem State.setR16_ctr0 (s : State) (n : RegNum) (v : Word16) : (s.setR16 n v).ctr0 = s.ctr0 := rfl
@[simp] theorem State.setR16_ctr1 (s : State) (n : RegNum) (v : Word16) : (s.setR16 n v).ctr1 = s.ctr1 := rfl
@[simp] theorem State.setR16_smbase (s : State) (n : RegNum) (v : Word16) : (s.setR16 n v).smbase = s.smbase := rfl
@[simp] theorem State.setR16_inSmm (s : State) (n : RegNum) (v : Word16) : (s.setR16 n v).inSmm = s.inSmm := rfl
@[simp] theorem State.setR16_smiLatched (s : State) (n : RegNum) (v : Word16) : (s.setR16 n v).smiLatched = s.smiLatched := rfl
@[simp] theorem State.setR16_nmiLatched (s : State) (n : RegNum) (v : Word16) : (s.setR16 n v).nmiLatched = s.nmiLatched := rfl
@[simp] theorem State.setR16_nmiBlocked (s : State) (n : RegNum) (v : Word16) : (s.setR16 n v).nmiBlocked = s.nmiBlocked := rfl
@[simp] theorem State.setR16_a20mBlocked (s : State) (n : RegNum) (v : Word16) : (s.setR16 n v).a20mBlocked = s.a20mBlocked := rfl
@[simp] theorem State.setR16_halted (s : State) (n : RegNum) (v : Word16) : (s.setR16 n v).halted = s.halted := rfl
@[simp] theorem State.setR16_shutdown (s : State) (n : RegNum) (v : Word16) : (s.setR16 n v).shutdown = s.shutdown := rfl
@[simp] theorem State.setR16_haltedAtSmi (s : State) (n : RegNum) (v : Word16) : (s.setR16 n v).haltedAtSmi = s.haltedAtSmi := rfl
@[simp] theorem State.setR16_ioRestartEip (s : State) (n : RegNum) (v : Word16) : (s.setR16 n v).ioRestartEip = s.ioRestartEip := rfl
@[simp] theorem State.setR16_smmImage (s : State) (n : RegNum) (v : Word16) : (s.setR16 n v).smmImage = s.smmImage := rfl
@[simp] theorem State.setR16_intrLine (s : State) (n : RegNum) (v : Word16) : (s.setR16 n v).intrLine = s.intrLine := rfl
@[simp] theorem State.setR16_mem (s : State) (n : RegNum) (v : Word16) : (s.setR16 n v).mem = s.mem := rfl
@[simp] theorem State.setR16_smram (s : State) (n : RegNum) (v : Word16) : (s.setR16 n v).smram = s.smram := rfl
@[simp] theorem State.setR16_tlb (s : State) (n : RegNum) (v : Word16) : (s.setR16 n v).tlb = s.tlb := rfl
@[simp] theorem State.setR16_inputs (s : State) (n : RegNum) (v : Word16) : (s.setR16 n v).inputs = s.inputs := rfl
@[simp] theorem State.setR16_draws (s : State) (n : RegNum) (v : Word16) : (s.setR16 n v).draws = s.draws := rfl
@[simp] theorem State.setR16_stepTrap (s : State) (n : RegNum) (v : Word16) : (s.setR16 n v).stepTrap = s.stepTrap := rfl
@[simp] theorem State.setR16_lastExn (s : State) (n : RegNum) (v : Word16) : (s.setR16 n v).lastExn = s.lastExn := rfl
@[simp] theorem State.setR16_deliveryExn (s : State) (n : RegNum) (v : Word16) : (s.setR16 n v).deliveryExn = s.deliveryExn := rfl

/-! ## setEdxEax -/

@[simp] theorem State.setEdxEax_cfg (s : State) (v : Qword) : (s.setEdxEax v).cfg = s.cfg := rfl
@[simp] theorem State.setEdxEax_gpr (s : State) (v : Qword) : (s.setEdxEax v).gpr = (s.gpr.set 2 (v.extractLsb' 32 32)).set 0 (v.extractLsb' 0 32) := rfl
@[simp] theorem State.setEdxEax_eip (s : State) (v : Qword) : (s.setEdxEax v).eip = s.eip := rfl
@[simp] theorem State.setEdxEax_eflags (s : State) (v : Qword) : (s.setEdxEax v).eflags = s.eflags := rfl
@[simp] theorem State.setEdxEax_segs (s : State) (v : Qword) : (s.setEdxEax v).segs = s.segs := rfl
@[simp] theorem State.setEdxEax_cpl (s : State) (v : Qword) : (s.setEdxEax v).cpl = s.cpl := rfl
@[simp] theorem State.setEdxEax_ldtr (s : State) (v : Qword) : (s.setEdxEax v).ldtr = s.ldtr := rfl
@[simp] theorem State.setEdxEax_tr (s : State) (v : Qword) : (s.setEdxEax v).tr = s.tr := rfl
@[simp] theorem State.setEdxEax_gdtr (s : State) (v : Qword) : (s.setEdxEax v).gdtr = s.gdtr := rfl
@[simp] theorem State.setEdxEax_idtr (s : State) (v : Qword) : (s.setEdxEax v).idtr = s.idtr := rfl
@[simp] theorem State.setEdxEax_cr0 (s : State) (v : Qword) : (s.setEdxEax v).cr0 = s.cr0 := rfl
@[simp] theorem State.setEdxEax_cr2 (s : State) (v : Qword) : (s.setEdxEax v).cr2 = s.cr2 := rfl
@[simp] theorem State.setEdxEax_cr3 (s : State) (v : Qword) : (s.setEdxEax v).cr3 = s.cr3 := rfl
@[simp] theorem State.setEdxEax_cr4 (s : State) (v : Qword) : (s.setEdxEax v).cr4 = s.cr4 := rfl
@[simp] theorem State.setEdxEax_dr (s : State) (v : Qword) : (s.setEdxEax v).dr = s.dr := rfl
@[simp] theorem State.setEdxEax_fpr (s : State) (v : Qword) : (s.setEdxEax v).fpr = s.fpr := rfl
@[simp] theorem State.setEdxEax_fcw (s : State) (v : Qword) : (s.setEdxEax v).fcw = s.fcw := rfl
@[simp] theorem State.setEdxEax_fsw (s : State) (v : Qword) : (s.setEdxEax v).fsw = s.fsw := rfl
@[simp] theorem State.setEdxEax_ftw (s : State) (v : Qword) : (s.setEdxEax v).ftw = s.ftw := rfl
@[simp] theorem State.setEdxEax_tsc (s : State) (v : Qword) : (s.setEdxEax v).tsc = s.tsc := rfl
@[simp] theorem State.setEdxEax_cesr (s : State) (v : Qword) : (s.setEdxEax v).cesr = s.cesr := rfl
@[simp] theorem State.setEdxEax_ctr0 (s : State) (v : Qword) : (s.setEdxEax v).ctr0 = s.ctr0 := rfl
@[simp] theorem State.setEdxEax_ctr1 (s : State) (v : Qword) : (s.setEdxEax v).ctr1 = s.ctr1 := rfl
@[simp] theorem State.setEdxEax_smbase (s : State) (v : Qword) : (s.setEdxEax v).smbase = s.smbase := rfl
@[simp] theorem State.setEdxEax_inSmm (s : State) (v : Qword) : (s.setEdxEax v).inSmm = s.inSmm := rfl
@[simp] theorem State.setEdxEax_smiLatched (s : State) (v : Qword) : (s.setEdxEax v).smiLatched = s.smiLatched := rfl
@[simp] theorem State.setEdxEax_nmiLatched (s : State) (v : Qword) : (s.setEdxEax v).nmiLatched = s.nmiLatched := rfl
@[simp] theorem State.setEdxEax_nmiBlocked (s : State) (v : Qword) : (s.setEdxEax v).nmiBlocked = s.nmiBlocked := rfl
@[simp] theorem State.setEdxEax_a20mBlocked (s : State) (v : Qword) : (s.setEdxEax v).a20mBlocked = s.a20mBlocked := rfl
@[simp] theorem State.setEdxEax_halted (s : State) (v : Qword) : (s.setEdxEax v).halted = s.halted := rfl
@[simp] theorem State.setEdxEax_shutdown (s : State) (v : Qword) : (s.setEdxEax v).shutdown = s.shutdown := rfl
@[simp] theorem State.setEdxEax_haltedAtSmi (s : State) (v : Qword) : (s.setEdxEax v).haltedAtSmi = s.haltedAtSmi := rfl
@[simp] theorem State.setEdxEax_ioRestartEip (s : State) (v : Qword) : (s.setEdxEax v).ioRestartEip = s.ioRestartEip := rfl
@[simp] theorem State.setEdxEax_smmImage (s : State) (v : Qword) : (s.setEdxEax v).smmImage = s.smmImage := rfl
@[simp] theorem State.setEdxEax_intrLine (s : State) (v : Qword) : (s.setEdxEax v).intrLine = s.intrLine := rfl
@[simp] theorem State.setEdxEax_mem (s : State) (v : Qword) : (s.setEdxEax v).mem = s.mem := rfl
@[simp] theorem State.setEdxEax_smram (s : State) (v : Qword) : (s.setEdxEax v).smram = s.smram := rfl
@[simp] theorem State.setEdxEax_tlb (s : State) (v : Qword) : (s.setEdxEax v).tlb = s.tlb := rfl
@[simp] theorem State.setEdxEax_inputs (s : State) (v : Qword) : (s.setEdxEax v).inputs = s.inputs := rfl
@[simp] theorem State.setEdxEax_draws (s : State) (v : Qword) : (s.setEdxEax v).draws = s.draws := rfl
@[simp] theorem State.setEdxEax_stepTrap (s : State) (v : Qword) : (s.setEdxEax v).stepTrap = s.stepTrap := rfl
@[simp] theorem State.setEdxEax_lastExn (s : State) (v : Qword) : (s.setEdxEax v).lastExn = s.lastExn := rfl
@[simp] theorem State.setEdxEax_deliveryExn (s : State) (v : Qword) : (s.setEdxEax v).deliveryExn = s.deliveryExn := rfl

/-! ## advance -/

@[simp] theorem State.advance_cfg (s : State) (n : Nat) : (s.advance n).cfg = s.cfg := rfl
@[simp] theorem State.advance_gpr (s : State) (n : Nat) : (s.advance n).gpr = s.gpr := rfl
@[simp] theorem State.advance_eip (s : State) (n : Nat) : (s.advance n).eip = s.eip + BitVec.ofNat 32 n := rfl
@[simp] theorem State.advance_eflags (s : State) (n : Nat) : (s.advance n).eflags = s.eflags := rfl
@[simp] theorem State.advance_segs (s : State) (n : Nat) : (s.advance n).segs = s.segs := rfl
@[simp] theorem State.advance_cpl (s : State) (n : Nat) : (s.advance n).cpl = s.cpl := rfl
@[simp] theorem State.advance_ldtr (s : State) (n : Nat) : (s.advance n).ldtr = s.ldtr := rfl
@[simp] theorem State.advance_tr (s : State) (n : Nat) : (s.advance n).tr = s.tr := rfl
@[simp] theorem State.advance_gdtr (s : State) (n : Nat) : (s.advance n).gdtr = s.gdtr := rfl
@[simp] theorem State.advance_idtr (s : State) (n : Nat) : (s.advance n).idtr = s.idtr := rfl
@[simp] theorem State.advance_cr0 (s : State) (n : Nat) : (s.advance n).cr0 = s.cr0 := rfl
@[simp] theorem State.advance_cr2 (s : State) (n : Nat) : (s.advance n).cr2 = s.cr2 := rfl
@[simp] theorem State.advance_cr3 (s : State) (n : Nat) : (s.advance n).cr3 = s.cr3 := rfl
@[simp] theorem State.advance_cr4 (s : State) (n : Nat) : (s.advance n).cr4 = s.cr4 := rfl
@[simp] theorem State.advance_dr (s : State) (n : Nat) : (s.advance n).dr = s.dr := rfl
@[simp] theorem State.advance_fpr (s : State) (n : Nat) : (s.advance n).fpr = s.fpr := rfl
@[simp] theorem State.advance_fcw (s : State) (n : Nat) : (s.advance n).fcw = s.fcw := rfl
@[simp] theorem State.advance_fsw (s : State) (n : Nat) : (s.advance n).fsw = s.fsw := rfl
@[simp] theorem State.advance_ftw (s : State) (n : Nat) : (s.advance n).ftw = s.ftw := rfl
@[simp] theorem State.advance_tsc (s : State) (n : Nat) : (s.advance n).tsc = s.tsc := rfl
@[simp] theorem State.advance_cesr (s : State) (n : Nat) : (s.advance n).cesr = s.cesr := rfl
@[simp] theorem State.advance_ctr0 (s : State) (n : Nat) : (s.advance n).ctr0 = s.ctr0 := rfl
@[simp] theorem State.advance_ctr1 (s : State) (n : Nat) : (s.advance n).ctr1 = s.ctr1 := rfl
@[simp] theorem State.advance_smbase (s : State) (n : Nat) : (s.advance n).smbase = s.smbase := rfl
@[simp] theorem State.advance_inSmm (s : State) (n : Nat) : (s.advance n).inSmm = s.inSmm := rfl
@[simp] theorem State.advance_smiLatched (s : State) (n : Nat) : (s.advance n).smiLatched = s.smiLatched := rfl
@[simp] theorem State.advance_nmiLatched (s : State) (n : Nat) : (s.advance n).nmiLatched = s.nmiLatched := rfl
@[simp] theorem State.advance_nmiBlocked (s : State) (n : Nat) : (s.advance n).nmiBlocked = s.nmiBlocked := rfl
@[simp] theorem State.advance_a20mBlocked (s : State) (n : Nat) : (s.advance n).a20mBlocked = s.a20mBlocked := rfl
@[simp] theorem State.advance_halted (s : State) (n : Nat) : (s.advance n).halted = s.halted := rfl
@[simp] theorem State.advance_shutdown (s : State) (n : Nat) : (s.advance n).shutdown = s.shutdown := rfl
@[simp] theorem State.advance_haltedAtSmi (s : State) (n : Nat) : (s.advance n).haltedAtSmi = s.haltedAtSmi := rfl
@[simp] theorem State.advance_ioRestartEip (s : State) (n : Nat) : (s.advance n).ioRestartEip = s.ioRestartEip := rfl
@[simp] theorem State.advance_smmImage (s : State) (n : Nat) : (s.advance n).smmImage = s.smmImage := rfl
@[simp] theorem State.advance_intrLine (s : State) (n : Nat) : (s.advance n).intrLine = s.intrLine := rfl
@[simp] theorem State.advance_mem (s : State) (n : Nat) : (s.advance n).mem = s.mem := rfl
@[simp] theorem State.advance_smram (s : State) (n : Nat) : (s.advance n).smram = s.smram := rfl
@[simp] theorem State.advance_tlb (s : State) (n : Nat) : (s.advance n).tlb = s.tlb := rfl
@[simp] theorem State.advance_inputs (s : State) (n : Nat) : (s.advance n).inputs = s.inputs := rfl
@[simp] theorem State.advance_draws (s : State) (n : Nat) : (s.advance n).draws = s.draws := rfl
@[simp] theorem State.advance_stepTrap (s : State) (n : Nat) : (s.advance n).stepTrap = s.stepTrap := rfl
@[simp] theorem State.advance_lastExn (s : State) (n : Nat) : (s.advance n).lastExn = s.lastExn := rfl
@[simp] theorem State.advance_deliveryExn (s : State) (n : Nat) : (s.advance n).deliveryExn = s.deliveryExn := rfl

/-! ## setMm -/

@[simp] theorem State.setMm_cfg (s : State) (n : RegNum) (v : Qword) : (s.setMm n v).cfg = s.cfg := rfl
@[simp] theorem State.setMm_gpr (s : State) (n : RegNum) (v : Qword) : (s.setMm n v).gpr = s.gpr := rfl
@[simp] theorem State.setMm_eip (s : State) (n : RegNum) (v : Qword) : (s.setMm n v).eip = s.eip := rfl
@[simp] theorem State.setMm_eflags (s : State) (n : RegNum) (v : Qword) : (s.setMm n v).eflags = s.eflags := rfl
@[simp] theorem State.setMm_segs (s : State) (n : RegNum) (v : Qword) : (s.setMm n v).segs = s.segs := rfl
@[simp] theorem State.setMm_cpl (s : State) (n : RegNum) (v : Qword) : (s.setMm n v).cpl = s.cpl := rfl
@[simp] theorem State.setMm_ldtr (s : State) (n : RegNum) (v : Qword) : (s.setMm n v).ldtr = s.ldtr := rfl
@[simp] theorem State.setMm_tr (s : State) (n : RegNum) (v : Qword) : (s.setMm n v).tr = s.tr := rfl
@[simp] theorem State.setMm_gdtr (s : State) (n : RegNum) (v : Qword) : (s.setMm n v).gdtr = s.gdtr := rfl
@[simp] theorem State.setMm_idtr (s : State) (n : RegNum) (v : Qword) : (s.setMm n v).idtr = s.idtr := rfl
@[simp] theorem State.setMm_cr0 (s : State) (n : RegNum) (v : Qword) : (s.setMm n v).cr0 = s.cr0 := rfl
@[simp] theorem State.setMm_cr2 (s : State) (n : RegNum) (v : Qword) : (s.setMm n v).cr2 = s.cr2 := rfl
@[simp] theorem State.setMm_cr3 (s : State) (n : RegNum) (v : Qword) : (s.setMm n v).cr3 = s.cr3 := rfl
@[simp] theorem State.setMm_cr4 (s : State) (n : RegNum) (v : Qword) : (s.setMm n v).cr4 = s.cr4 := rfl
@[simp] theorem State.setMm_dr (s : State) (n : RegNum) (v : Qword) : (s.setMm n v).dr = s.dr := rfl
@[simp] theorem State.setMm_fpr (s : State) (n : RegNum) (v : Qword) : (s.setMm n v).fpr = s.fpr.set n.toNat (0xFFFF#16 ++ v) n.isLt := rfl
@[simp] theorem State.setMm_fcw (s : State) (n : RegNum) (v : Qword) : (s.setMm n v).fcw = s.fcw := rfl
@[simp] theorem State.setMm_fsw (s : State) (n : RegNum) (v : Qword) : (s.setMm n v).fsw = s.fsw := rfl
@[simp] theorem State.setMm_ftw (s : State) (n : RegNum) (v : Qword) : (s.setMm n v).ftw = s.ftw := rfl
@[simp] theorem State.setMm_tsc (s : State) (n : RegNum) (v : Qword) : (s.setMm n v).tsc = s.tsc := rfl
@[simp] theorem State.setMm_cesr (s : State) (n : RegNum) (v : Qword) : (s.setMm n v).cesr = s.cesr := rfl
@[simp] theorem State.setMm_ctr0 (s : State) (n : RegNum) (v : Qword) : (s.setMm n v).ctr0 = s.ctr0 := rfl
@[simp] theorem State.setMm_ctr1 (s : State) (n : RegNum) (v : Qword) : (s.setMm n v).ctr1 = s.ctr1 := rfl
@[simp] theorem State.setMm_smbase (s : State) (n : RegNum) (v : Qword) : (s.setMm n v).smbase = s.smbase := rfl
@[simp] theorem State.setMm_inSmm (s : State) (n : RegNum) (v : Qword) : (s.setMm n v).inSmm = s.inSmm := rfl
@[simp] theorem State.setMm_smiLatched (s : State) (n : RegNum) (v : Qword) : (s.setMm n v).smiLatched = s.smiLatched := rfl
@[simp] theorem State.setMm_nmiLatched (s : State) (n : RegNum) (v : Qword) : (s.setMm n v).nmiLatched = s.nmiLatched := rfl
@[simp] theorem State.setMm_nmiBlocked (s : State) (n : RegNum) (v : Qword) : (s.setMm n v).nmiBlocked = s.nmiBlocked := rfl
@[simp] theorem State.setMm_a20mBlocked (s : State) (n : RegNum) (v : Qword) : (s.setMm n v).a20mBlocked = s.a20mBlocked := rfl
@[simp] theorem State.setMm_halted (s : State) (n : RegNum) (v : Qword) : (s.setMm n v).halted = s.halted := rfl
@[simp] theorem State.setMm_shutdown (s : State) (n : RegNum) (v : Qword) : (s.setMm n v).shutdown = s.shutdown := rfl
@[simp] theorem State.setMm_haltedAtSmi (s : State) (n : RegNum) (v : Qword) : (s.setMm n v).haltedAtSmi = s.haltedAtSmi := rfl
@[simp] theorem State.setMm_ioRestartEip (s : State) (n : RegNum) (v : Qword) : (s.setMm n v).ioRestartEip = s.ioRestartEip := rfl
@[simp] theorem State.setMm_smmImage (s : State) (n : RegNum) (v : Qword) : (s.setMm n v).smmImage = s.smmImage := rfl
@[simp] theorem State.setMm_intrLine (s : State) (n : RegNum) (v : Qword) : (s.setMm n v).intrLine = s.intrLine := rfl
@[simp] theorem State.setMm_mem (s : State) (n : RegNum) (v : Qword) : (s.setMm n v).mem = s.mem := rfl
@[simp] theorem State.setMm_smram (s : State) (n : RegNum) (v : Qword) : (s.setMm n v).smram = s.smram := rfl
@[simp] theorem State.setMm_tlb (s : State) (n : RegNum) (v : Qword) : (s.setMm n v).tlb = s.tlb := rfl
@[simp] theorem State.setMm_inputs (s : State) (n : RegNum) (v : Qword) : (s.setMm n v).inputs = s.inputs := rfl
@[simp] theorem State.setMm_draws (s : State) (n : RegNum) (v : Qword) : (s.setMm n v).draws = s.draws := rfl
@[simp] theorem State.setMm_stepTrap (s : State) (n : RegNum) (v : Qword) : (s.setMm n v).stepTrap = s.stepTrap := rfl
@[simp] theorem State.setMm_lastExn (s : State) (n : RegNum) (v : Qword) : (s.setMm n v).lastExn = s.lastExn := rfl
@[simp] theorem State.setMm_deliveryExn (s : State) (n : RegNum) (v : Qword) : (s.setMm n v).deliveryExn = s.deliveryExn := rfl

/-! ## mmxDone -/

@[simp] theorem State.mmxDone_cfg (s : State) (w : Word16) : (s.mmxDone w).cfg = s.cfg := rfl
@[simp] theorem State.mmxDone_gpr (s : State) (w : Word16) : (s.mmxDone w).gpr = s.gpr := rfl
@[simp] theorem State.mmxDone_eip (s : State) (w : Word16) : (s.mmxDone w).eip = s.eip := rfl
@[simp] theorem State.mmxDone_eflags (s : State) (w : Word16) : (s.mmxDone w).eflags = s.eflags := rfl
@[simp] theorem State.mmxDone_segs (s : State) (w : Word16) : (s.mmxDone w).segs = s.segs := rfl
@[simp] theorem State.mmxDone_cpl (s : State) (w : Word16) : (s.mmxDone w).cpl = s.cpl := rfl
@[simp] theorem State.mmxDone_ldtr (s : State) (w : Word16) : (s.mmxDone w).ldtr = s.ldtr := rfl
@[simp] theorem State.mmxDone_tr (s : State) (w : Word16) : (s.mmxDone w).tr = s.tr := rfl
@[simp] theorem State.mmxDone_gdtr (s : State) (w : Word16) : (s.mmxDone w).gdtr = s.gdtr := rfl
@[simp] theorem State.mmxDone_idtr (s : State) (w : Word16) : (s.mmxDone w).idtr = s.idtr := rfl
@[simp] theorem State.mmxDone_cr0 (s : State) (w : Word16) : (s.mmxDone w).cr0 = s.cr0 := rfl
@[simp] theorem State.mmxDone_cr2 (s : State) (w : Word16) : (s.mmxDone w).cr2 = s.cr2 := rfl
@[simp] theorem State.mmxDone_cr3 (s : State) (w : Word16) : (s.mmxDone w).cr3 = s.cr3 := rfl
@[simp] theorem State.mmxDone_cr4 (s : State) (w : Word16) : (s.mmxDone w).cr4 = s.cr4 := rfl
@[simp] theorem State.mmxDone_dr (s : State) (w : Word16) : (s.mmxDone w).dr = s.dr := rfl
@[simp] theorem State.mmxDone_fpr (s : State) (w : Word16) : (s.mmxDone w).fpr = s.fpr := rfl
@[simp] theorem State.mmxDone_fcw (s : State) (w : Word16) : (s.mmxDone w).fcw = s.fcw := rfl
@[simp] theorem State.mmxDone_fsw (s : State) (w : Word16) : (s.mmxDone w).fsw = withTos s.fsw 0 := rfl
@[simp] theorem State.mmxDone_ftw (s : State) (w : Word16) : (s.mmxDone w).ftw = w := rfl
@[simp] theorem State.mmxDone_tsc (s : State) (w : Word16) : (s.mmxDone w).tsc = s.tsc := rfl
@[simp] theorem State.mmxDone_cesr (s : State) (w : Word16) : (s.mmxDone w).cesr = s.cesr := rfl
@[simp] theorem State.mmxDone_ctr0 (s : State) (w : Word16) : (s.mmxDone w).ctr0 = s.ctr0 := rfl
@[simp] theorem State.mmxDone_ctr1 (s : State) (w : Word16) : (s.mmxDone w).ctr1 = s.ctr1 := rfl
@[simp] theorem State.mmxDone_smbase (s : State) (w : Word16) : (s.mmxDone w).smbase = s.smbase := rfl
@[simp] theorem State.mmxDone_inSmm (s : State) (w : Word16) : (s.mmxDone w).inSmm = s.inSmm := rfl
@[simp] theorem State.mmxDone_smiLatched (s : State) (w : Word16) : (s.mmxDone w).smiLatched = s.smiLatched := rfl
@[simp] theorem State.mmxDone_nmiLatched (s : State) (w : Word16) : (s.mmxDone w).nmiLatched = s.nmiLatched := rfl
@[simp] theorem State.mmxDone_nmiBlocked (s : State) (w : Word16) : (s.mmxDone w).nmiBlocked = s.nmiBlocked := rfl
@[simp] theorem State.mmxDone_a20mBlocked (s : State) (w : Word16) : (s.mmxDone w).a20mBlocked = s.a20mBlocked := rfl
@[simp] theorem State.mmxDone_halted (s : State) (w : Word16) : (s.mmxDone w).halted = s.halted := rfl
@[simp] theorem State.mmxDone_shutdown (s : State) (w : Word16) : (s.mmxDone w).shutdown = s.shutdown := rfl
@[simp] theorem State.mmxDone_haltedAtSmi (s : State) (w : Word16) : (s.mmxDone w).haltedAtSmi = s.haltedAtSmi := rfl
@[simp] theorem State.mmxDone_ioRestartEip (s : State) (w : Word16) : (s.mmxDone w).ioRestartEip = s.ioRestartEip := rfl
@[simp] theorem State.mmxDone_smmImage (s : State) (w : Word16) : (s.mmxDone w).smmImage = s.smmImage := rfl
@[simp] theorem State.mmxDone_intrLine (s : State) (w : Word16) : (s.mmxDone w).intrLine = s.intrLine := rfl
@[simp] theorem State.mmxDone_mem (s : State) (w : Word16) : (s.mmxDone w).mem = s.mem := rfl
@[simp] theorem State.mmxDone_smram (s : State) (w : Word16) : (s.mmxDone w).smram = s.smram := rfl
@[simp] theorem State.mmxDone_tlb (s : State) (w : Word16) : (s.mmxDone w).tlb = s.tlb := rfl
@[simp] theorem State.mmxDone_inputs (s : State) (w : Word16) : (s.mmxDone w).inputs = s.inputs := rfl
@[simp] theorem State.mmxDone_draws (s : State) (w : Word16) : (s.mmxDone w).draws = s.draws := rfl
@[simp] theorem State.mmxDone_stepTrap (s : State) (w : Word16) : (s.mmxDone w).stepTrap = s.stepTrap := rfl
@[simp] theorem State.mmxDone_lastExn (s : State) (w : Word16) : (s.mmxDone w).lastExn = s.lastExn := rfl
@[simp] theorem State.mmxDone_deliveryExn (s : State) (w : Word16) : (s.mmxDone w).deliveryExn = s.deliveryExn := rfl

/-! ## setSt -/

@[simp] theorem State.setSt_cfg (s : State) (i : RegNum) (v : FpuReg) : (s.setSt i v).cfg = s.cfg := rfl
@[simp] theorem State.setSt_gpr (s : State) (i : RegNum) (v : FpuReg) : (s.setSt i v).gpr = s.gpr := rfl
@[simp] theorem State.setSt_eip (s : State) (i : RegNum) (v : FpuReg) : (s.setSt i v).eip = s.eip := rfl
@[simp] theorem State.setSt_eflags (s : State) (i : RegNum) (v : FpuReg) : (s.setSt i v).eflags = s.eflags := rfl
@[simp] theorem State.setSt_segs (s : State) (i : RegNum) (v : FpuReg) : (s.setSt i v).segs = s.segs := rfl
@[simp] theorem State.setSt_cpl (s : State) (i : RegNum) (v : FpuReg) : (s.setSt i v).cpl = s.cpl := rfl
@[simp] theorem State.setSt_ldtr (s : State) (i : RegNum) (v : FpuReg) : (s.setSt i v).ldtr = s.ldtr := rfl
@[simp] theorem State.setSt_tr (s : State) (i : RegNum) (v : FpuReg) : (s.setSt i v).tr = s.tr := rfl
@[simp] theorem State.setSt_gdtr (s : State) (i : RegNum) (v : FpuReg) : (s.setSt i v).gdtr = s.gdtr := rfl
@[simp] theorem State.setSt_idtr (s : State) (i : RegNum) (v : FpuReg) : (s.setSt i v).idtr = s.idtr := rfl
@[simp] theorem State.setSt_cr0 (s : State) (i : RegNum) (v : FpuReg) : (s.setSt i v).cr0 = s.cr0 := rfl
@[simp] theorem State.setSt_cr2 (s : State) (i : RegNum) (v : FpuReg) : (s.setSt i v).cr2 = s.cr2 := rfl
@[simp] theorem State.setSt_cr3 (s : State) (i : RegNum) (v : FpuReg) : (s.setSt i v).cr3 = s.cr3 := rfl
@[simp] theorem State.setSt_cr4 (s : State) (i : RegNum) (v : FpuReg) : (s.setSt i v).cr4 = s.cr4 := rfl
@[simp] theorem State.setSt_dr (s : State) (i : RegNum) (v : FpuReg) : (s.setSt i v).dr = s.dr := rfl
@[simp] theorem State.setSt_fpr (s : State) (i : RegNum) (v : FpuReg) : (s.setSt i v).fpr = s.fpr.set (s.stIndex i).toNat v (s.stIndex i).isLt := rfl
@[simp] theorem State.setSt_fcw (s : State) (i : RegNum) (v : FpuReg) : (s.setSt i v).fcw = s.fcw := rfl
@[simp] theorem State.setSt_fsw (s : State) (i : RegNum) (v : FpuReg) : (s.setSt i v).fsw = s.fsw := rfl
@[simp] theorem State.setSt_ftw (s : State) (i : RegNum) (v : FpuReg) : (s.setSt i v).ftw = s.ftw := rfl
@[simp] theorem State.setSt_tsc (s : State) (i : RegNum) (v : FpuReg) : (s.setSt i v).tsc = s.tsc := rfl
@[simp] theorem State.setSt_cesr (s : State) (i : RegNum) (v : FpuReg) : (s.setSt i v).cesr = s.cesr := rfl
@[simp] theorem State.setSt_ctr0 (s : State) (i : RegNum) (v : FpuReg) : (s.setSt i v).ctr0 = s.ctr0 := rfl
@[simp] theorem State.setSt_ctr1 (s : State) (i : RegNum) (v : FpuReg) : (s.setSt i v).ctr1 = s.ctr1 := rfl
@[simp] theorem State.setSt_smbase (s : State) (i : RegNum) (v : FpuReg) : (s.setSt i v).smbase = s.smbase := rfl
@[simp] theorem State.setSt_inSmm (s : State) (i : RegNum) (v : FpuReg) : (s.setSt i v).inSmm = s.inSmm := rfl
@[simp] theorem State.setSt_smiLatched (s : State) (i : RegNum) (v : FpuReg) : (s.setSt i v).smiLatched = s.smiLatched := rfl
@[simp] theorem State.setSt_nmiLatched (s : State) (i : RegNum) (v : FpuReg) : (s.setSt i v).nmiLatched = s.nmiLatched := rfl
@[simp] theorem State.setSt_nmiBlocked (s : State) (i : RegNum) (v : FpuReg) : (s.setSt i v).nmiBlocked = s.nmiBlocked := rfl
@[simp] theorem State.setSt_a20mBlocked (s : State) (i : RegNum) (v : FpuReg) : (s.setSt i v).a20mBlocked = s.a20mBlocked := rfl
@[simp] theorem State.setSt_halted (s : State) (i : RegNum) (v : FpuReg) : (s.setSt i v).halted = s.halted := rfl
@[simp] theorem State.setSt_shutdown (s : State) (i : RegNum) (v : FpuReg) : (s.setSt i v).shutdown = s.shutdown := rfl
@[simp] theorem State.setSt_haltedAtSmi (s : State) (i : RegNum) (v : FpuReg) : (s.setSt i v).haltedAtSmi = s.haltedAtSmi := rfl
@[simp] theorem State.setSt_ioRestartEip (s : State) (i : RegNum) (v : FpuReg) : (s.setSt i v).ioRestartEip = s.ioRestartEip := rfl
@[simp] theorem State.setSt_smmImage (s : State) (i : RegNum) (v : FpuReg) : (s.setSt i v).smmImage = s.smmImage := rfl
@[simp] theorem State.setSt_intrLine (s : State) (i : RegNum) (v : FpuReg) : (s.setSt i v).intrLine = s.intrLine := rfl
@[simp] theorem State.setSt_mem (s : State) (i : RegNum) (v : FpuReg) : (s.setSt i v).mem = s.mem := rfl
@[simp] theorem State.setSt_smram (s : State) (i : RegNum) (v : FpuReg) : (s.setSt i v).smram = s.smram := rfl
@[simp] theorem State.setSt_tlb (s : State) (i : RegNum) (v : FpuReg) : (s.setSt i v).tlb = s.tlb := rfl
@[simp] theorem State.setSt_inputs (s : State) (i : RegNum) (v : FpuReg) : (s.setSt i v).inputs = s.inputs := rfl
@[simp] theorem State.setSt_draws (s : State) (i : RegNum) (v : FpuReg) : (s.setSt i v).draws = s.draws := rfl
@[simp] theorem State.setSt_stepTrap (s : State) (i : RegNum) (v : FpuReg) : (s.setSt i v).stepTrap = s.stepTrap := rfl
@[simp] theorem State.setSt_lastExn (s : State) (i : RegNum) (v : FpuReg) : (s.setSt i v).lastExn = s.lastExn := rfl
@[simp] theorem State.setSt_deliveryExn (s : State) (i : RegNum) (v : FpuReg) : (s.setSt i v).deliveryExn = s.deliveryExn := rfl

/-! ## popSt -/

@[simp] theorem State.popSt_cfg (s : State) : (s.popSt).cfg = s.cfg := rfl
@[simp] theorem State.popSt_gpr (s : State) : (s.popSt).gpr = s.gpr := rfl
@[simp] theorem State.popSt_eip (s : State) : (s.popSt).eip = s.eip := rfl
@[simp] theorem State.popSt_eflags (s : State) : (s.popSt).eflags = s.eflags := rfl
@[simp] theorem State.popSt_segs (s : State) : (s.popSt).segs = s.segs := rfl
@[simp] theorem State.popSt_cpl (s : State) : (s.popSt).cpl = s.cpl := rfl
@[simp] theorem State.popSt_ldtr (s : State) : (s.popSt).ldtr = s.ldtr := rfl
@[simp] theorem State.popSt_tr (s : State) : (s.popSt).tr = s.tr := rfl
@[simp] theorem State.popSt_gdtr (s : State) : (s.popSt).gdtr = s.gdtr := rfl
@[simp] theorem State.popSt_idtr (s : State) : (s.popSt).idtr = s.idtr := rfl
@[simp] theorem State.popSt_cr0 (s : State) : (s.popSt).cr0 = s.cr0 := rfl
@[simp] theorem State.popSt_cr2 (s : State) : (s.popSt).cr2 = s.cr2 := rfl
@[simp] theorem State.popSt_cr3 (s : State) : (s.popSt).cr3 = s.cr3 := rfl
@[simp] theorem State.popSt_cr4 (s : State) : (s.popSt).cr4 = s.cr4 := rfl
@[simp] theorem State.popSt_dr (s : State) : (s.popSt).dr = s.dr := rfl
@[simp] theorem State.popSt_fpr (s : State) : (s.popSt).fpr = s.fpr := rfl
@[simp] theorem State.popSt_fcw (s : State) : (s.popSt).fcw = s.fcw := rfl
@[simp] theorem State.popSt_fsw (s : State) : (s.popSt).fsw = withTos s.fsw (s.tos + 1) := rfl
@[simp] theorem State.popSt_ftw (s : State) : (s.popSt).ftw = withTag s.ftw s.tos 3 := rfl
@[simp] theorem State.popSt_tsc (s : State) : (s.popSt).tsc = s.tsc := rfl
@[simp] theorem State.popSt_cesr (s : State) : (s.popSt).cesr = s.cesr := rfl
@[simp] theorem State.popSt_ctr0 (s : State) : (s.popSt).ctr0 = s.ctr0 := rfl
@[simp] theorem State.popSt_ctr1 (s : State) : (s.popSt).ctr1 = s.ctr1 := rfl
@[simp] theorem State.popSt_smbase (s : State) : (s.popSt).smbase = s.smbase := rfl
@[simp] theorem State.popSt_inSmm (s : State) : (s.popSt).inSmm = s.inSmm := rfl
@[simp] theorem State.popSt_smiLatched (s : State) : (s.popSt).smiLatched = s.smiLatched := rfl
@[simp] theorem State.popSt_nmiLatched (s : State) : (s.popSt).nmiLatched = s.nmiLatched := rfl
@[simp] theorem State.popSt_nmiBlocked (s : State) : (s.popSt).nmiBlocked = s.nmiBlocked := rfl
@[simp] theorem State.popSt_a20mBlocked (s : State) : (s.popSt).a20mBlocked = s.a20mBlocked := rfl
@[simp] theorem State.popSt_halted (s : State) : (s.popSt).halted = s.halted := rfl
@[simp] theorem State.popSt_shutdown (s : State) : (s.popSt).shutdown = s.shutdown := rfl
@[simp] theorem State.popSt_haltedAtSmi (s : State) : (s.popSt).haltedAtSmi = s.haltedAtSmi := rfl
@[simp] theorem State.popSt_ioRestartEip (s : State) : (s.popSt).ioRestartEip = s.ioRestartEip := rfl
@[simp] theorem State.popSt_smmImage (s : State) : (s.popSt).smmImage = s.smmImage := rfl
@[simp] theorem State.popSt_intrLine (s : State) : (s.popSt).intrLine = s.intrLine := rfl
@[simp] theorem State.popSt_mem (s : State) : (s.popSt).mem = s.mem := rfl
@[simp] theorem State.popSt_smram (s : State) : (s.popSt).smram = s.smram := rfl
@[simp] theorem State.popSt_tlb (s : State) : (s.popSt).tlb = s.tlb := rfl
@[simp] theorem State.popSt_inputs (s : State) : (s.popSt).inputs = s.inputs := rfl
@[simp] theorem State.popSt_draws (s : State) : (s.popSt).draws = s.draws := rfl
@[simp] theorem State.popSt_stepTrap (s : State) : (s.popSt).stepTrap = s.stepTrap := rfl
@[simp] theorem State.popSt_lastExn (s : State) : (s.popSt).lastExn = s.lastExn := rfl
@[simp] theorem State.popSt_deliveryExn (s : State) : (s.popSt).deliveryExn = s.deliveryExn := rfl

/-! ## setFlag -/

@[simp] theorem State.setFlag_cfg (s : State) (i : Nat) (b : Bool) : (s.setFlag i b).cfg = s.cfg := rfl
@[simp] theorem State.setFlag_gpr (s : State) (i : Nat) (b : Bool) : (s.setFlag i b).gpr = s.gpr := rfl
@[simp] theorem State.setFlag_eip (s : State) (i : Nat) (b : Bool) : (s.setFlag i b).eip = s.eip := rfl
@[simp] theorem State.setFlag_eflags (s : State) (i : Nat) (b : Bool) : (s.setFlag i b).eflags = setBit s.eflags i b := rfl
@[simp] theorem State.setFlag_segs (s : State) (i : Nat) (b : Bool) : (s.setFlag i b).segs = s.segs := rfl
@[simp] theorem State.setFlag_cpl (s : State) (i : Nat) (b : Bool) : (s.setFlag i b).cpl = s.cpl := rfl
@[simp] theorem State.setFlag_ldtr (s : State) (i : Nat) (b : Bool) : (s.setFlag i b).ldtr = s.ldtr := rfl
@[simp] theorem State.setFlag_tr (s : State) (i : Nat) (b : Bool) : (s.setFlag i b).tr = s.tr := rfl
@[simp] theorem State.setFlag_gdtr (s : State) (i : Nat) (b : Bool) : (s.setFlag i b).gdtr = s.gdtr := rfl
@[simp] theorem State.setFlag_idtr (s : State) (i : Nat) (b : Bool) : (s.setFlag i b).idtr = s.idtr := rfl
@[simp] theorem State.setFlag_cr0 (s : State) (i : Nat) (b : Bool) : (s.setFlag i b).cr0 = s.cr0 := rfl
@[simp] theorem State.setFlag_cr2 (s : State) (i : Nat) (b : Bool) : (s.setFlag i b).cr2 = s.cr2 := rfl
@[simp] theorem State.setFlag_cr3 (s : State) (i : Nat) (b : Bool) : (s.setFlag i b).cr3 = s.cr3 := rfl
@[simp] theorem State.setFlag_cr4 (s : State) (i : Nat) (b : Bool) : (s.setFlag i b).cr4 = s.cr4 := rfl
@[simp] theorem State.setFlag_dr (s : State) (i : Nat) (b : Bool) : (s.setFlag i b).dr = s.dr := rfl
@[simp] theorem State.setFlag_fpr (s : State) (i : Nat) (b : Bool) : (s.setFlag i b).fpr = s.fpr := rfl
@[simp] theorem State.setFlag_fcw (s : State) (i : Nat) (b : Bool) : (s.setFlag i b).fcw = s.fcw := rfl
@[simp] theorem State.setFlag_fsw (s : State) (i : Nat) (b : Bool) : (s.setFlag i b).fsw = s.fsw := rfl
@[simp] theorem State.setFlag_ftw (s : State) (i : Nat) (b : Bool) : (s.setFlag i b).ftw = s.ftw := rfl
@[simp] theorem State.setFlag_tsc (s : State) (i : Nat) (b : Bool) : (s.setFlag i b).tsc = s.tsc := rfl
@[simp] theorem State.setFlag_cesr (s : State) (i : Nat) (b : Bool) : (s.setFlag i b).cesr = s.cesr := rfl
@[simp] theorem State.setFlag_ctr0 (s : State) (i : Nat) (b : Bool) : (s.setFlag i b).ctr0 = s.ctr0 := rfl
@[simp] theorem State.setFlag_ctr1 (s : State) (i : Nat) (b : Bool) : (s.setFlag i b).ctr1 = s.ctr1 := rfl
@[simp] theorem State.setFlag_smbase (s : State) (i : Nat) (b : Bool) : (s.setFlag i b).smbase = s.smbase := rfl
@[simp] theorem State.setFlag_inSmm (s : State) (i : Nat) (b : Bool) : (s.setFlag i b).inSmm = s.inSmm := rfl
@[simp] theorem State.setFlag_smiLatched (s : State) (i : Nat) (b : Bool) : (s.setFlag i b).smiLatched = s.smiLatched := rfl
@[simp] theorem State.setFlag_nmiLatched (s : State) (i : Nat) (b : Bool) : (s.setFlag i b).nmiLatched = s.nmiLatched := rfl
@[simp] theorem State.setFlag_nmiBlocked (s : State) (i : Nat) (b : Bool) : (s.setFlag i b).nmiBlocked = s.nmiBlocked := rfl
@[simp] theorem State.setFlag_a20mBlocked (s : State) (i : Nat) (b : Bool) : (s.setFlag i b).a20mBlocked = s.a20mBlocked := rfl
@[simp] theorem State.setFlag_halted (s : State) (i : Nat) (b : Bool) : (s.setFlag i b).halted = s.halted := rfl
@[simp] theorem State.setFlag_shutdown (s : State) (i : Nat) (b : Bool) : (s.setFlag i b).shutdown = s.shutdown := rfl
@[simp] theorem State.setFlag_haltedAtSmi (s : State) (i : Nat) (b : Bool) : (s.setFlag i b).haltedAtSmi = s.haltedAtSmi := rfl
@[simp] theorem State.setFlag_ioRestartEip (s : State) (i : Nat) (b : Bool) : (s.setFlag i b).ioRestartEip = s.ioRestartEip := rfl
@[simp] theorem State.setFlag_smmImage (s : State) (i : Nat) (b : Bool) : (s.setFlag i b).smmImage = s.smmImage := rfl
@[simp] theorem State.setFlag_intrLine (s : State) (i : Nat) (b : Bool) : (s.setFlag i b).intrLine = s.intrLine := rfl
@[simp] theorem State.setFlag_mem (s : State) (i : Nat) (b : Bool) : (s.setFlag i b).mem = s.mem := rfl
@[simp] theorem State.setFlag_smram (s : State) (i : Nat) (b : Bool) : (s.setFlag i b).smram = s.smram := rfl
@[simp] theorem State.setFlag_tlb (s : State) (i : Nat) (b : Bool) : (s.setFlag i b).tlb = s.tlb := rfl
@[simp] theorem State.setFlag_inputs (s : State) (i : Nat) (b : Bool) : (s.setFlag i b).inputs = s.inputs := rfl
@[simp] theorem State.setFlag_draws (s : State) (i : Nat) (b : Bool) : (s.setFlag i b).draws = s.draws := rfl
@[simp] theorem State.setFlag_stepTrap (s : State) (i : Nat) (b : Bool) : (s.setFlag i b).stepTrap = s.stepTrap := rfl
@[simp] theorem State.setFlag_lastExn (s : State) (i : Nat) (b : Bool) : (s.setFlag i b).lastExn = s.lastExn := rfl
@[simp] theorem State.setFlag_deliveryExn (s : State) (i : Nat) (b : Bool) : (s.setFlag i b).deliveryExn = s.deliveryExn := rfl

/-! ## setCompareFlags -/

@[simp] theorem State.setCompareFlags_cfg (s : State) (z p c : Bool) : (s.setCompareFlags z p c).cfg = s.cfg := rfl
@[simp] theorem State.setCompareFlags_gpr (s : State) (z p c : Bool) : (s.setCompareFlags z p c).gpr = s.gpr := rfl
@[simp] theorem State.setCompareFlags_eip (s : State) (z p c : Bool) : (s.setCompareFlags z p c).eip = s.eip := rfl
@[simp] theorem State.setCompareFlags_eflags (s : State) (z p c : Bool) : (s.setCompareFlags z p c).eflags = setBit (setBit (setBit s.eflags bitZF z) bitPF p) bitCF c := rfl
@[simp] theorem State.setCompareFlags_segs (s : State) (z p c : Bool) : (s.setCompareFlags z p c).segs = s.segs := rfl
@[simp] theorem State.setCompareFlags_cpl (s : State) (z p c : Bool) : (s.setCompareFlags z p c).cpl = s.cpl := rfl
@[simp] theorem State.setCompareFlags_ldtr (s : State) (z p c : Bool) : (s.setCompareFlags z p c).ldtr = s.ldtr := rfl
@[simp] theorem State.setCompareFlags_tr (s : State) (z p c : Bool) : (s.setCompareFlags z p c).tr = s.tr := rfl
@[simp] theorem State.setCompareFlags_gdtr (s : State) (z p c : Bool) : (s.setCompareFlags z p c).gdtr = s.gdtr := rfl
@[simp] theorem State.setCompareFlags_idtr (s : State) (z p c : Bool) : (s.setCompareFlags z p c).idtr = s.idtr := rfl
@[simp] theorem State.setCompareFlags_cr0 (s : State) (z p c : Bool) : (s.setCompareFlags z p c).cr0 = s.cr0 := rfl
@[simp] theorem State.setCompareFlags_cr2 (s : State) (z p c : Bool) : (s.setCompareFlags z p c).cr2 = s.cr2 := rfl
@[simp] theorem State.setCompareFlags_cr3 (s : State) (z p c : Bool) : (s.setCompareFlags z p c).cr3 = s.cr3 := rfl
@[simp] theorem State.setCompareFlags_cr4 (s : State) (z p c : Bool) : (s.setCompareFlags z p c).cr4 = s.cr4 := rfl
@[simp] theorem State.setCompareFlags_dr (s : State) (z p c : Bool) : (s.setCompareFlags z p c).dr = s.dr := rfl
@[simp] theorem State.setCompareFlags_fpr (s : State) (z p c : Bool) : (s.setCompareFlags z p c).fpr = s.fpr := rfl
@[simp] theorem State.setCompareFlags_fcw (s : State) (z p c : Bool) : (s.setCompareFlags z p c).fcw = s.fcw := rfl
@[simp] theorem State.setCompareFlags_fsw (s : State) (z p c : Bool) : (s.setCompareFlags z p c).fsw = s.fsw := rfl
@[simp] theorem State.setCompareFlags_ftw (s : State) (z p c : Bool) : (s.setCompareFlags z p c).ftw = s.ftw := rfl
@[simp] theorem State.setCompareFlags_tsc (s : State) (z p c : Bool) : (s.setCompareFlags z p c).tsc = s.tsc := rfl
@[simp] theorem State.setCompareFlags_cesr (s : State) (z p c : Bool) : (s.setCompareFlags z p c).cesr = s.cesr := rfl
@[simp] theorem State.setCompareFlags_ctr0 (s : State) (z p c : Bool) : (s.setCompareFlags z p c).ctr0 = s.ctr0 := rfl
@[simp] theorem State.setCompareFlags_ctr1 (s : State) (z p c : Bool) : (s.setCompareFlags z p c).ctr1 = s.ctr1 := rfl
@[simp] theorem State.setCompareFlags_smbase (s : State) (z p c : Bool) : (s.setCompareFlags z p c).smbase = s.smbase := rfl
@[simp] theorem State.setCompareFlags_inSmm (s : State) (z p c : Bool) : (s.setCompareFlags z p c).inSmm = s.inSmm := rfl
@[simp] theorem State.setCompareFlags_smiLatched (s : State) (z p c : Bool) : (s.setCompareFlags z p c).smiLatched = s.smiLatched := rfl
@[simp] theorem State.setCompareFlags_nmiLatched (s : State) (z p c : Bool) : (s.setCompareFlags z p c).nmiLatched = s.nmiLatched := rfl
@[simp] theorem State.setCompareFlags_nmiBlocked (s : State) (z p c : Bool) : (s.setCompareFlags z p c).nmiBlocked = s.nmiBlocked := rfl
@[simp] theorem State.setCompareFlags_a20mBlocked (s : State) (z p c : Bool) : (s.setCompareFlags z p c).a20mBlocked = s.a20mBlocked := rfl
@[simp] theorem State.setCompareFlags_halted (s : State) (z p c : Bool) : (s.setCompareFlags z p c).halted = s.halted := rfl
@[simp] theorem State.setCompareFlags_shutdown (s : State) (z p c : Bool) : (s.setCompareFlags z p c).shutdown = s.shutdown := rfl
@[simp] theorem State.setCompareFlags_haltedAtSmi (s : State) (z p c : Bool) : (s.setCompareFlags z p c).haltedAtSmi = s.haltedAtSmi := rfl
@[simp] theorem State.setCompareFlags_ioRestartEip (s : State) (z p c : Bool) : (s.setCompareFlags z p c).ioRestartEip = s.ioRestartEip := rfl
@[simp] theorem State.setCompareFlags_smmImage (s : State) (z p c : Bool) : (s.setCompareFlags z p c).smmImage = s.smmImage := rfl
@[simp] theorem State.setCompareFlags_intrLine (s : State) (z p c : Bool) : (s.setCompareFlags z p c).intrLine = s.intrLine := rfl
@[simp] theorem State.setCompareFlags_mem (s : State) (z p c : Bool) : (s.setCompareFlags z p c).mem = s.mem := rfl
@[simp] theorem State.setCompareFlags_smram (s : State) (z p c : Bool) : (s.setCompareFlags z p c).smram = s.smram := rfl
@[simp] theorem State.setCompareFlags_tlb (s : State) (z p c : Bool) : (s.setCompareFlags z p c).tlb = s.tlb := rfl
@[simp] theorem State.setCompareFlags_inputs (s : State) (z p c : Bool) : (s.setCompareFlags z p c).inputs = s.inputs := rfl
@[simp] theorem State.setCompareFlags_draws (s : State) (z p c : Bool) : (s.setCompareFlags z p c).draws = s.draws := rfl
@[simp] theorem State.setCompareFlags_stepTrap (s : State) (z p c : Bool) : (s.setCompareFlags z p c).stepTrap = s.stepTrap := rfl
@[simp] theorem State.setCompareFlags_lastExn (s : State) (z p c : Bool) : (s.setCompareFlags z p c).lastExn = s.lastExn := rfl
@[simp] theorem State.setCompareFlags_deliveryExn (s : State) (z p c : Bool) : (s.setCompareFlags z p c).deliveryExn = s.deliveryExn := rfl

/-! ## drew -/

@[simp] theorem State.drew_cfg (s : State) : (s.drew).cfg = s.cfg := rfl
@[simp] theorem State.drew_gpr (s : State) : (s.drew).gpr = s.gpr := rfl
@[simp] theorem State.drew_eip (s : State) : (s.drew).eip = s.eip := rfl
@[simp] theorem State.drew_eflags (s : State) : (s.drew).eflags = s.eflags := rfl
@[simp] theorem State.drew_segs (s : State) : (s.drew).segs = s.segs := rfl
@[simp] theorem State.drew_cpl (s : State) : (s.drew).cpl = s.cpl := rfl
@[simp] theorem State.drew_ldtr (s : State) : (s.drew).ldtr = s.ldtr := rfl
@[simp] theorem State.drew_tr (s : State) : (s.drew).tr = s.tr := rfl
@[simp] theorem State.drew_gdtr (s : State) : (s.drew).gdtr = s.gdtr := rfl
@[simp] theorem State.drew_idtr (s : State) : (s.drew).idtr = s.idtr := rfl
@[simp] theorem State.drew_cr0 (s : State) : (s.drew).cr0 = s.cr0 := rfl
@[simp] theorem State.drew_cr2 (s : State) : (s.drew).cr2 = s.cr2 := rfl
@[simp] theorem State.drew_cr3 (s : State) : (s.drew).cr3 = s.cr3 := rfl
@[simp] theorem State.drew_cr4 (s : State) : (s.drew).cr4 = s.cr4 := rfl
@[simp] theorem State.drew_dr (s : State) : (s.drew).dr = s.dr := rfl
@[simp] theorem State.drew_fpr (s : State) : (s.drew).fpr = s.fpr := rfl
@[simp] theorem State.drew_fcw (s : State) : (s.drew).fcw = s.fcw := rfl
@[simp] theorem State.drew_fsw (s : State) : (s.drew).fsw = s.fsw := rfl
@[simp] theorem State.drew_ftw (s : State) : (s.drew).ftw = s.ftw := rfl
@[simp] theorem State.drew_tsc (s : State) : (s.drew).tsc = s.tsc := rfl
@[simp] theorem State.drew_cesr (s : State) : (s.drew).cesr = s.cesr := rfl
@[simp] theorem State.drew_ctr0 (s : State) : (s.drew).ctr0 = s.ctr0 := rfl
@[simp] theorem State.drew_ctr1 (s : State) : (s.drew).ctr1 = s.ctr1 := rfl
@[simp] theorem State.drew_smbase (s : State) : (s.drew).smbase = s.smbase := rfl
@[simp] theorem State.drew_inSmm (s : State) : (s.drew).inSmm = s.inSmm := rfl
@[simp] theorem State.drew_smiLatched (s : State) : (s.drew).smiLatched = s.smiLatched := rfl
@[simp] theorem State.drew_nmiLatched (s : State) : (s.drew).nmiLatched = s.nmiLatched := rfl
@[simp] theorem State.drew_nmiBlocked (s : State) : (s.drew).nmiBlocked = s.nmiBlocked := rfl
@[simp] theorem State.drew_a20mBlocked (s : State) : (s.drew).a20mBlocked = s.a20mBlocked := rfl
@[simp] theorem State.drew_halted (s : State) : (s.drew).halted = s.halted := rfl
@[simp] theorem State.drew_shutdown (s : State) : (s.drew).shutdown = s.shutdown := rfl
@[simp] theorem State.drew_haltedAtSmi (s : State) : (s.drew).haltedAtSmi = s.haltedAtSmi := rfl
@[simp] theorem State.drew_ioRestartEip (s : State) : (s.drew).ioRestartEip = s.ioRestartEip := rfl
@[simp] theorem State.drew_smmImage (s : State) : (s.drew).smmImage = s.smmImage := rfl
@[simp] theorem State.drew_intrLine (s : State) : (s.drew).intrLine = s.intrLine := rfl
@[simp] theorem State.drew_mem (s : State) : (s.drew).mem = s.mem := rfl
@[simp] theorem State.drew_smram (s : State) : (s.drew).smram = s.smram := rfl
@[simp] theorem State.drew_tlb (s : State) : (s.drew).tlb = s.tlb := rfl
@[simp] theorem State.drew_inputs (s : State) : (s.drew).inputs = s.inputs := rfl
@[simp] theorem State.drew_draws (s : State) : (s.drew).draws = s.draws + 1 := rfl
@[simp] theorem State.drew_stepTrap (s : State) : (s.drew).stepTrap = s.stepTrap := rfl
@[simp] theorem State.drew_lastExn (s : State) : (s.drew).lastExn = s.lastExn := rfl
@[simp] theorem State.drew_deliveryExn (s : State) : (s.drew).deliveryExn = s.deliveryExn := rfl

/-! ## Reading back -/

@[simp] theorem State.r32_setR32_self (s : State) (n : RegNum) (v : Dword) : (s.setR32 n v).r32 n = v := by
  simp [State.r32]

theorem State.r32_setR32_ne (s : State) (n m : RegNum) (v : Dword) (h : n ≠ m) :
    (s.setR32 n v).r32 m = s.r32 m := by
  have : n.toNat ≠ m.toNat := fun e => h (BitVec.eq_of_toNat_eq e)
  simp [State.r32, Vector.getElem_set_ne, this]

/-- The significand of a register an MMX instruction wrote. -/
theorem significand_ones (v : Qword) : BitVec.extractLsb' 0 64 (0xFFFF#16 ++ v) = v := by
  apply BitVec.eq_of_getLsbD_eq
  intro i hi
  rw [BitVec.getLsbD_extractLsb', BitVec.getLsbD_append]
  simp [hi]

@[simp] theorem State.mm_setMm_self (s : State) (n : RegNum) (v : Qword) : (s.setMm n v).mm n = v := by
  simp only [State.mm, State.setMm, Vector.getElem_set_self]
  exact significand_ones v

theorem State.mm_setMm_ne (s : State) (n m : RegNum) (v : Qword) (h : n ≠ m) :
    (s.setMm n v).mm m = s.mm m := by
  have : n.toNat ≠ m.toNat := fun e => h (BitVec.eq_of_toNat_eq e)
  simp [State.mm, Vector.getElem_set_ne, this]

/-! ## What depends on few fields -/

@[simp] theorem State.mm_mmxDone (s : State) (w : Word16) (n : RegNum) : (s.mmxDone w).mm n = s.mm n := rfl
@[simp] theorem State.mm_advance (s : State) (k : Nat) (n : RegNum) : (s.advance k).mm n = s.mm n := rfl
@[simp] theorem State.r32_advance (s : State) (k : Nat) (n : RegNum) : (s.advance k).r32 n = s.r32 n := rfl
@[simp] theorem State.r32_setMm (s : State) (d : RegNum) (v : Qword) (n : RegNum) : (s.setMm d v).r32 n = s.r32 n := rfl
@[simp] theorem State.r32_mmxDone (s : State) (w : Word16) (n : RegNum) : (s.mmxDone w).r32 n = s.r32 n := rfl
@[simp] theorem State.r32_setFlag (s : State) (i : Nat) (b : Bool) (n : RegNum) : (s.setFlag i b).r32 n = s.r32 n := rfl
@[simp] theorem State.r32_drew (s : State) (n : RegNum) : s.drew.r32 n = s.r32 n := rfl
@[simp] theorem State.mm_setR32 (s : State) (d : RegNum) (v : Dword) (n : RegNum) : (s.setR32 d v).mm n = s.mm n := rfl

/-! ## One bit of a word -/

theorem getLsbD_setBit {w : Nat} (v : BitVec w) (i j : Nat) (b : Bool) (h : i < w) :
    (setBit v i b).getLsbD j = if j = i then b else v.getLsbD j := by
  unfold setBit
  by_cases hj : j < w
  · cases b <;> by_cases e : j = i <;> simp [e, hj, h]
  · have : j ≠ i := by omega
    simp [BitVec.getLsbD_of_ge _ _ (Nat.le_of_not_lt hj), this]

theorem setBit_eq_self {w : Nat} (v : BitVec w) (i : Nat) (b : Bool) (h : i < w) (e : v.getLsbD i = b) :
    setBit v i b = v := by
  apply BitVec.eq_of_getLsbD_eq
  intro j _
  rw [getLsbD_setBit _ _ _ _ h]
  split
  · rename_i k; rw [k, e]
  · rfl

end Sys2Proof.Machine
end

