-- ==== Sys2Proof/Laws/Ops.lean ====
section
/-! SUPPORT. One lemma per shared operation that says once what it does when it answers, for proofs to cite instead of
unfolding it. -/

namespace Sys2Proof.Machine

/-! ## Sequencing -/

theorem Res.bind_ok {α β : Type} {r : Res α} {k : α → State → Res β} {b : β} {t : State} :
    r.bind k = .ok b t ↔ ∃ a s, r = .ok a s ∧ k a s = .ok b t := by
  cases r with
  | ok a s => exact ⟨fun h => ⟨a, s, rfl, h⟩, fun ⟨_, _, e, h⟩ => by cases e; exact h⟩
  | exn e => simp [Res.bind]
  | stop x => simp [Res.bind]

theorem Res.bind_exn {α β : Type} {r : Res α} {k : α → State → Res β} {e : Exn} :
    r.bind k = .exn e ↔ r = .exn e ∨ ∃ a s, r = .ok a s ∧ k a s = .exn e := by
  cases r with
  | ok a s => exact ⟨fun h => .inr ⟨a, s, rfl, h⟩, fun h => by
      obtain h | ⟨_, _, h, k⟩ := h
      · contradiction
      · cases h
        exact k⟩
  | exn x => simp [Res.bind]
  | stop x => simp [Res.bind]

@[simp] theorem Res.ok_bind {α β : Type} (a : α) (s : State) (k : α → State → Res β) :
    (Res.ok a s).bind k = k a s := rfl

@[simp] theorem Res.exn_bind {α β : Type} (e : Exn) (k : α → State → Res β) :
    (Res.exn e : Res α).bind k = .exn e := rfl

@[simp] theorem Res.stop_bind {α β : Type} (x : Stop) (k : α → State → Res β) :
    (Res.stop x : Res α).bind k = .stop x := rfl

@[simp] theorem Res.finish_ok (a : Unit) (s t : State) : (Res.ok a t).finish s = .next t := rfl

@[simp] theorem Res.finish_exn (e : Exn) (s : State) : (Res.exn e : Res Unit).finish s = takeException e s := rfl

theorem Res.bind_assoc {α β γ : Type} (r : Res α) (f : α → State → Res β) (g : β → State → Res γ) :
    (r.bind f).bind g = r.bind fun a s => (f a s).bind g := by
  cases r <;> rfl

/-! ## What an access leaves unchanged -/

theorem marksOnly.refl (m : Memory) : marksOnly m m := fun a => ⟨0, .inl rfl, by simp⟩

theorem marksOnly.trans {m₁ m₂ m₃ : Memory} (h : marksOnly m₁ m₂) (k : marksOnly m₂ m₃) : marksOnly m₁ m₃ := by
  intro a
  obtain ⟨b, hb, e⟩ := h a
  obtain ⟨c, hc, f⟩ := k a
  refine ⟨b ||| c, ?_, by rw [f, e, BitVec.or_assoc]⟩
  rcases hb with rfl | rfl | rfl | rfl <;> rcases hc with rfl | rfl | rfl | rfl <;> decide

theorem PagingOnly.refl (s : State) : PagingOnly s s :=
  ⟨rfl, fun h => ⟨h, .refl _⟩, fun h => ⟨h, .refl _⟩, fun _ => rfl⟩

theorem PagingOnly.cr0 {s t : State} (h : PagingOnly s t) : t.cr0 = s.cr0 := by rw [h.fields]

theorem PagingOnly.pg {s t : State} (h : PagingOnly s t) : t.pg = s.pg := by simp [State.pg, h.cr0]

theorem PagingOnly.trans {s t u : State} (h : PagingOnly s t) (k : PagingOnly t u) : PagingOnly s u := by
  refine ⟨?_, ?_, ?_, fun e => ?_⟩
  · have := k.fields
    rw [h.fields] at this
    simpa using this
  · exact fun w => ⟨(k.mem (h.mem w).1).1, (h.mem w).2.trans (k.mem (h.mem w).1).2⟩
  · exact fun w => ⟨(k.smram (h.smram w).1).1, (h.smram w).2.trans (k.smram (h.smram w).1).2⟩
  · rw [k.flat (h.pg.trans e), h.flat e]

/-- Changing only the free-value index and the remembered walks, with paging on. -/
theorem PagingOnly.tlbDraws (s : State) (l : List TlbEntry) (n : Nat) (h : s.pg = true) :
    PagingOnly s { s with tlb := l, draws := n } :=
  ⟨rfl, fun h => ⟨h, .refl _⟩, fun h => ⟨h, .refl _⟩, fun e => by rw [h] at e; contradiction⟩

/-! ## Physical accesses -/

theorem readPhys_ok {s t : State} {as : List Nat} {bs : List Byte} (h : s.readPhys as = .ok bs t) :
    t = s ∧ bs = readBytes s.physMem as ∧ as.findSome? s.stopAt = none := by
  unfold State.readPhys at h
  split at h
  · contradiction
  · rename_i e
    injection h with h₁ h₂
    exact ⟨h₂.symm, h₁.symm, e⟩

theorem writePhys_ok {s t : State} {cs : List (Nat × Byte)} {u : Unit} (h : s.writePhys cs = .ok u t) :
    t = s.setPhysMem (writeBytes s.physMem (cs.filter fun c => s.stores c.1))
      ∧ (cs.map Prod.fst).findSome? s.stopAt = none := by
  unfold State.writePhys at h
  split at h
  · contradiction
  · rename_i e
    injection h with _ h₂
    exact ⟨h₂.symm, e⟩

/-- A memory replaced: the other fields stay. -/
theorem setPhysMem_fields (s : State) (m : Memory) :
    s.setPhysMem m = { s with mem := (s.setPhysMem m).mem, smram := (s.setPhysMem m).smram } := by
  unfold State.setPhysMem
  split <;> rfl

theorem setPhysMem_physMem (s : State) (m : Memory) : (s.setPhysMem m).physMem = m := by
  unfold State.setPhysMem State.physMem State.inSmramSpace
  by_cases h : s.cfg.smramSeparate && s.inSmm <;> simp [h]

/-- Bytes combined by OR with one mark. -/
theorem marksOnly_writeBytes (m₀ m : Memory) (as : List Nat) (p : Nat → Bool) (bits : Byte)
    (hb : bits = 0x20 ∨ bits = 0x40) (hw : Memory.wf m) (h : marksOnly m₀ m)
    (hv : ∀ a ∈ as, readByte m a = readByte m₀ a ∨ readByte m a = readByte m₀ a ||| bits) :
    marksOnly m₀ (writeBytes m ((as.map fun a => (a, readByte m₀ a ||| bits)).filter fun c => p c.1)) := by
  induction as generalizing m with
  | nil => exact h
  | cons a t ih =>
    simp only [List.map_cons, List.filter_cons]
    split
    · refine ih (writeByte m a (readByte m₀ a ||| bits)) (writeByte_wf _ _ _ hw) ?_ ?_
      · intro c
        rw [readByte_writeByte _ _ _ _ hw]
        split
        · rename_i e
          exact ⟨bits, by rcases hb with e | e <;> simp [e], by rw [e]⟩
        · exact h c
      · intro c hc
        rw [readByte_writeByte _ _ _ _ hw]
        split
        · rename_i e
          exact .inr (by rw [e])
        · exact hv c (List.mem_cons_of_mem _ hc)
    · exact ih m hw h fun c hc => hv c (List.mem_cons_of_mem _ hc)

theorem markEntries_ok {s t : State} {as : List Nat} {bits : Byte} {u : Unit} (hb : bits = 0x20 ∨ bits = 0x40)
    (hp : s.pg = true) (h : s.markEntries as bits = .ok u t) : PagingOnly s t := by
  obtain ⟨rfl, -⟩ := writePhys_ok h
  have key : Memory.wf s.physMem → marksOnly s.physMem (writeBytes s.physMem
      ((as.map fun a => (a, readByte s.physMem a ||| bits)).filter fun c => s.stores c.1)) :=
    fun w => marksOnly_writeBytes _ _ as s.stores bits hb w (.refl _) fun a _ => .inl rfl
  refine ⟨?_, ?_, ?_, fun e => by rw [hp] at e; contradiction⟩
  · unfold State.setPhysMem
    split <;> rfl
  · intro w
    unfold State.setPhysMem
    unfold State.physMem at key ⊢
    split
    · exact ⟨w, .refl _⟩
    · rename_i e
      simp only [e] at key ⊢
      exact ⟨writeBytes_wf _ _ w, key w⟩
  · intro w
    unfold State.setPhysMem
    unfold State.physMem at key ⊢
    split
    · rename_i e
      simp only [e] at key ⊢
      exact ⟨writeBytes_wf _ _ w, key w⟩
    · exact ⟨w, .refl _⟩

/-! ## Translation -/

theorem readEntry_ok {s t : State} {a n : Nat} {v : BitVec 64} (h : s.readEntry a n = .ok v t) : t = s := by
  obtain ⟨bs, u, h₁, h₂⟩ := Res.bind_ok.1 h
  injection h₂ with _ h₂
  rw [← h₂, (readPhys_ok h₁).1]

theorem walk_ok {s t : State} {la : Dword} {acc : Access} {w : Walk} (h : s.walk la acc = .ok w t) : t = s := by
  unfold State.walk at h
  split at h
  · unfold State.walkPae at h
    obtain ⟨e₁, s₁, h₁, h⟩ := Res.bind_ok.1 h
    rw [← readEntry_ok h₁]
    split at h
    · contradiction
    split at h
    · contradiction
    obtain ⟨e₂, s₂, h₂, h⟩ := Res.bind_ok.1 h
    rw [← readEntry_ok h₂]
    split at h
    · contradiction
    split at h
    · contradiction
    split at h
    · split at h
      · contradiction
      · injection h with _ h; exact h.symm
    obtain ⟨e₃, s₃, h₃, h⟩ := Res.bind_ok.1 h
    rw [← readEntry_ok h₃]
    split at h
    · contradiction
    split at h
    · contradiction
    · injection h with _ h; exact h.symm
  · unfold State.walk32 at h
    obtain ⟨e₁, s₁, h₁, h⟩ := Res.bind_ok.1 h
    rw [← readEntry_ok h₁]
    split at h
    · contradiction
    split at h
    · split at h
      · contradiction
      · injection h with _ h; exact h.symm
    obtain ⟨e₂, s₂, h₂, h⟩ := Res.bind_ok.1 h
    rw [← readEntry_ok h₂]
    split at h
    · contradiction
    · injection h with _ h; exact h.symm

theorem dirtyLeaf_ok {s t : State} {e : TlbEntry} {acc : Access} {u : Unit} (hp : s.pg = true)
    (h : s.dirtyLeaf e acc = .ok u t) : PagingOnly s t := by
  unfold State.dirtyLeaf at h
  split at h
  · obtain ⟨_, s₁, h₁, h⟩ := Res.bind_ok.1 h
    have k := markEntries_ok (.inr rfl) hp h₁
    injection h with _ h
    subst h
    exact k.trans (.tlbDraws s₁ _ s₁.draws (k.pg.trans hp))
  · injection h with _ h
    exact h ▸ .refl _

/-- A translation through a remembered walk: its rights allow the access, and only the D bit of its leaf changes. -/
theorem through_ok {s t : State} {e : TlbEntry} {la : Dword} {acc : Access} {a : Nat} (hp : s.pg = true)
    (h : s.through e la acc = .ok a t) :
    permits s.wp e acc = true ∧ a = physOf e la ∧ s.dirtyLeaf e acc = .ok () t ∧ PagingOnly s t := by
  unfold State.through at h
  split at h
  · obtain ⟨_, s₁, h₁, h⟩ := Res.bind_ok.1 h
    injection h with h h'
    subst h h'
    exact ⟨‹_›, rfl, h₁, dirtyLeaf_ok hp h₁⟩
  · contradiction

theorem freshWalk_ok {s t : State} {la : Dword} {acc : Access} {a : Nat} (hp : s.pg = true)
    (h : s.freshWalk la acc = .ok a t) : PagingOnly s t := by
  unfold State.freshWalk at h
  obtain ⟨w, s₁, h₁, k⟩ := Res.bind_ok.1 h
  obtain rfl := walk_ok h₁
  split at k
  · obtain ⟨_, s₂, h₂, h⟩ := Res.bind_ok.1 k
    have k₂ := markEntries_ok (.inl rfl) hp h₂
    obtain ⟨_, s₃, h₃, h⟩ := Res.bind_ok.1 h
    injection h with _ h
    subst h
    have p₂ : s₂.pg = true := k₂.pg.trans hp
    exact (k₂.trans (.tlbDraws s₂ (w.entry :: s₂.tlb) s₂.draws p₂)).trans
      (dirtyLeaf_ok (s := { s₂ with tlb := w.entry :: s₂.tlb }) p₂ h₃)
  · contradiction

/-- With paging on a translation goes through a remembered walk that covers the address, or by a fresh walk. -/
theorem translatePaged_cases (s : State) (la : Dword) (acc : Access) :
    (∃ e ∈ s.tlb, covers e la = true ∧ s.translatePaged la acc = s.drew.through e la acc) ∨
      s.translatePaged la acc = s.drew.freshWalk la acc := by
  unfold State.translatePaged
  split
  · rename_i e h
    have m := List.mem_of_getElem? h
    exact .inl ⟨e, (List.mem_filter.1 m).1, (List.mem_filter.1 m).2, rfl⟩
  · exact .inr rfl

theorem translatePaged_ok {s t : State} {la : Dword} {acc : Access} {a : Nat} (hp : s.pg = true)
    (h : s.translatePaged la acc = .ok a t) : PagingOnly s t := by
  have hd : PagingOnly s s.drew := .tlbDraws s s.tlb (s.draws + 1) hp
  obtain ⟨e, -, -, k⟩ | k := translatePaged_cases s la acc
  · exact hd.trans (through_ok (s := s.drew) hp (k ▸ h)).2.2.2
  · exact hd.trans (freshWalk_ok (s := s.drew) hp (k ▸ h))

/-- Translation changes nothing but what PagingOnly says. -/
theorem translate_ok {s t : State} {la : Dword} {acc : Access} {a : Nat} (h : s.translate la acc = .ok a t) :
    PagingOnly s t := by
  unfold State.translate at h
  split at h
  · exact translatePaged_ok ‹_› h
  · injection h with _ h
    exact h ▸ .refl _

/-! ## What a translation raises -/

/-- What is raised, if anything, meets `P`. -/
def Res.raises {α : Type} (r : Res α) (P : Exn → Prop) : Prop := ∀ e, r = .exn e → P e

theorem Res.raises.bind {α β : Type} {r : Res α} {k : α → State → Res β} {P : Exn → Prop} (h : r.raises P)
    (hk : ∀ a s, (k a s).raises P) : (r.bind k).raises P := fun e he => by
  obtain he | ⟨a, s, -, he⟩ := Res.bind_exn.1 he
  · exact h e he
  · exact hk a s e he

theorem Res.raises.ite {α : Type} {c : Prop} [Decidable c] {r q : Res α} {P : Exn → Prop} (h : r.raises P)
    (k : q.raises P) : (if c then r else q).raises P := by
  split <;> assumption

theorem Res.raises.ok {α : Type} {P : Exn → Prop} {a : α} {s : State} : (Res.ok a s).raises P := nofun

/-- A page fault at an address. -/
def faultAt (la : Dword) (e : Exn) : Prop := ∃ code, e = .pf code la

theorem faultAt.raises {α : Type} {code la : Dword} : (Res.exn (α := α) (.pf code la)).raises (faultAt la) := fun e h => by
  injection h with h
  exact ⟨code, h.symm⟩

theorem writePhys_raises {s : State} {cs : List (Nat × Byte)} {P : Exn → Prop} : (s.writePhys cs).raises P := by
  unfold State.writePhys
  split <;> exact nofun

theorem readEntry_raises {s : State} {a n : Nat} {P : Exn → Prop} : (s.readEntry a n).raises P := by
  refine .bind (fun _ h => ?_) fun _ _ => .ok
  unfold State.readPhys at h
  split at h <;> contradiction

/-- The exception of a walk is a page fault at the address. -/
theorem walk_raises {s : State} {la : Dword} {acc : Access} : (s.walk la acc).raises (faultAt la) := by
  refine .ite (.bind readEntry_raises fun _ _ => .ite faultAt.raises <| .ite faultAt.raises <|
      .bind readEntry_raises fun _ _ => .ite faultAt.raises <| .ite faultAt.raises <|
      .ite (.ite faultAt.raises .ok) <| .bind readEntry_raises fun _ _ => .ite faultAt.raises <| .ite faultAt.raises .ok)
    (.bind readEntry_raises fun _ _ => .ite faultAt.raises <| .ite (.ite faultAt.raises .ok) <|
      .bind readEntry_raises fun _ _ => .ite faultAt.raises .ok)

theorem dirtyLeaf_raises {s : State} {e : TlbEntry} {acc : Access} {P : Exn → Prop} : (s.dirtyLeaf e acc).raises P :=
  .ite (.bind writePhys_raises fun _ _ => .ok) .ok

/-- The exception of a translation is a page fault at the address (20_memory R117). -/
theorem translate_raises (s : State) (la : Dword) (acc : Access) : (s.translate la acc).raises (faultAt la) := by
  refine .ite ?_ .ok
  obtain ⟨e, -, -, h⟩ | h := translatePaged_cases s la acc <;> rw [h]
  · exact .ite (.bind dirtyLeaf_raises fun _ _ => .ok) faultAt.raises
  · exact .bind walk_raises fun _ _ => .ite (.bind writePhys_raises fun _ _ =>
      .bind dirtyLeaf_raises fun _ _ => .ok) faultAt.raises

/-! ## Linear addresses -/

theorem linAddrs_ok {s t : State} {lin : Dword} {n : Nat} {acc : Access} {as : List Nat}
    (h : s.linAddrs lin n acc = .ok as t) : PagingOnly s t := by
  unfold State.linAddrs at h
  split at h
  · injection h with _ h
    exact h ▸ .refl _
  · obtain ⟨a, s₁, h₁, h⟩ := Res.bind_ok.1 h
    simp only at h
    split at h
    · injection h with _ h
      exact h ▸ translate_ok h₁
    · obtain ⟨b, s₂, h₂, h⟩ := Res.bind_ok.1 h
      injection h with _ h
      exact h ▸ (translate_ok h₁).trans (translate_ok h₂)

/-- With paging off the bytes of an access are at the linear addresses (20_memory R103). -/
theorem linAddrs_flat (s : State) (lin : Dword) (n : Nat) (acc : Access) (h : s.pg = false) :
    s.linAddrs lin n acc = .ok ((List.range n).map fun k => (linByte lin k).toNat) s := by
  simp [State.linAddrs, h]

/-! ## Memory operands -/

theorem operandAddrs_ok {s t : State} {seg : SegName} {ea : Dword} {n : Nat} {w : Bool} {as : List Nat}
    (h : s.operandAddrs seg ea n w = .ok as t) :
    s.segCheck seg ea n w = none ∧ s.misaligned (s.lin seg ea) n = false
      ∧ s.linAddrs (s.lin seg ea) n (s.access w) = .ok as t := by
  unfold State.operandAddrs at h
  split at h
  · contradiction
  · rename_i e
    split at h
    · contradiction
    · rename_i m
      exact ⟨e, by simpa using m, h⟩

theorem segAddrs_ok {s t : State} {seg : SegName} {ea : Dword} {n : Nat} {acc : Access} {as : List Nat}
    (h : s.segAddrs seg ea n acc = .ok as t) :
    s.segCheck seg ea n acc.write = none ∧ s.linAddrs (s.lin seg ea) n acc = .ok as t := by
  unfold State.segAddrs at h
  split at h
  · contradiction
  · rename_i e
    exact ⟨e, h⟩

theorem load_ok {s t : State} {seg : SegName} {ea : Dword} {n : Nat} {bs : List Byte}
    (h : s.load seg ea n = .ok bs t) :
    PagingOnly s t ∧ ∃ as, s.operandAddrs seg ea n false = .ok as t ∧ bs = readBytes t.physMem as := by
  obtain ⟨as, s₁, h₁, h₂⟩ := Res.bind_ok.1 h
  obtain ⟨rfl, rfl, -⟩ := readPhys_ok h₂
  exact ⟨linAddrs_ok (operandAddrs_ok h₁).2.2, as, h₁, rfl⟩

theorem readMem_ok {s t : State} {p : List Pfx} {m : Mem} {w n : Nat} {v : BitVec w}
    (h : s.readMem p m w n = .ok v t) : PagingOnly s t := by
  obtain ⟨bs, s₁, h₁, h₂⟩ := Res.bind_ok.1 h
  injection h₂ with _ h₂
  exact h₂ ▸ (load_ok h₁).1

theorem srcMm_ok {s t : State} {p : List Pfx} {x : Rm} {n : Nat} {v : Qword} (h : s.srcMm p x n = .ok v t) :
    PagingOnly s t := by
  cases x with
  | reg r => injection h with _ h; exact h ▸ .refl _
  | mem m => exact readMem_ok h

theorem src32_ok {s t : State} {p : List Pfx} {x : Rm} {v : Dword} (h : s.src32 p x = .ok v t) : PagingOnly s t := by
  cases x with
  | reg r => injection h with _ h; exact h ▸ .refl _
  | mem m => exact readMem_ok h

theorem src16_ok {s t : State} {p : List Pfx} {x : Rm} {v : Word16} (h : s.src16 p x = .ok v t) : PagingOnly s t := by
  cases x with
  | reg r => injection h with _ h; exact h ▸ .refl _
  | mem m => exact readMem_ok h

/-! ## The frames -/

/-- An MMX instruction that passes its checks (40 R200). -/
theorem mmxFrame_runs {s : State} {p : List Pfx} (tags : Word16) (len : Nat) (op : State → Res Unit)
    (h : mmxRuns s p) :
    mmxFrame p tags len op s = Res.finish ((op s).bind fun _ t => .ok () ((t.mmxDone tags).advance len)) s := by
  obtain ⟨h₁, h₂, h₃, h₄, h₅⟩ := h
  simp [mmxFrame, State.mmxFault, h₁, h₂, h₃, h₄, h₅]

/-- A two-operand MMX instruction whose source can be read (40 R200). -/
theorem mmxOp_runs {s s₁ : State} {p : List Pfx} {d : RegNum} {x : Rm} {v : Qword} (f : Qword → Qword → Qword)
    (h : mmxRuns s p) (hs : s.srcMm p x 8 = .ok v s₁) :
    mmxOp f p d x s = .next (mmxResult s₁ d (f (s₁.mm d) v) (rmLength p x)) := by
  rw [mmxOp, mmxFrame_runs _ _ _ h, combine, hs]
  rfl

/-- The same with a 4-byte memory source (42 R277). -/
theorem mmxOp32_runs {s s₁ : State} {p : List Pfx} {d : RegNum} {x : Rm} {v : Qword} (f : Qword → Qword → Qword)
    (h : mmxRuns s p) (hs : s.srcMm p x 4 = .ok v s₁) :
    mmxOp32 f p d x s = .next (mmxResult s₁ d (f (s₁.mm d) v) (rmLength p x)) := by
  rw [mmxOp32, mmxFrame_runs _ _ _ h, combine, hs]
  rfl

/-- An immediate shift that passes its checks (44 R300). -/
theorem mmxShiftImm_runs {s : State} {p : List Pfx} {d : RegNum} {n : Byte} (f : Qword → Nat → Qword)
    (h : mmxRuns s p) :
    mmxShiftImm f p d n s = .next (mmxResult s d (f (s.mm d) n.toNat) (p.length + 4)) := by
  rw [mmxShiftImm, mmxFrame_runs _ _ _ h]
  rfl

/-- An instruction without operands that has no LOCK. -/
theorem plainFrame_runs {s : State} {p : List Pfx} (op : State → Res Unit) (h : locked p = false) :
    plainFrame p op s = Res.finish ((op s).bind fun _ t => .ok () (t.advance (p.length + 2))) s := by
  simp [plainFrame, h]

/-- An FPU instruction that passes its checks (47 R398, R402). -/
theorem fpuFrame_runs {s : State} {p : List Pfx} (op : State → State) (h : fpuRuns s p) :
    fpuFrame p op s = .next ((op s).advance (p.length + 2)) := by
  obtain ⟨h₁, h₂, h₃, h₄, h₅⟩ := h
  simp [fpuFrame, State.pendingFirst, h₁, h₂, h₃, h₄, h₅]

end Sys2Proof.Machine
end

