-- ==== Sys2Proof/Laws/Deliver.lean ====
section
/-! SUPPORT. Stores, pushes, deliveries and fetches: what each shared operation did when it answered. -/

namespace Sys2Proof.Machine

/-! ## Addresses and stores -/

theorem operandAddrs_paging {s t : State} {seg : SegName} {ea : Dword} {n : Nat} {w : Bool} {as : List Nat}
    (h : s.operandAddrs seg ea n w = .ok as t) : PagingOnly s t := linAddrs_ok (operandAddrs_ok h).2.2

theorem segAddrs_paging {s t : State} {seg : SegName} {ea : Dword} {n : Nat} {acc : Access} {as : List Nat}
    (h : s.segAddrs seg ea n acc = .ok as t) : PagingOnly s t := linAddrs_ok (segAddrs_ok h).2

/-- An access has one physical address a byte. -/
theorem linAddrs_length {s t : State} {lin : Dword} {n : Nat} {acc : Access} {as : List Nat}
    (h : s.linAddrs lin n acc = .ok as t) : as.length = n := by
  unfold State.linAddrs at h
  split at h
  · cases h
    simp
  · obtain ⟨pa, s₁, -, h⟩ := Res.bind_ok.1 h
    simp only at h
    split at h
    · cases h
      simp [span]
    · obtain ⟨pb, s₂, -, h⟩ := Res.bind_ok.1 h
      cases h
      simp only [span, inFirstPage, List.length_append, List.length_map, List.length_range]
      omega

theorem operandAddrs_length {s t : State} {seg : SegName} {ea : Dword} {n : Nat} {w : Bool} {as : List Nat}
    (h : s.operandAddrs seg ea n w = .ok as t) : as.length = n := linAddrs_length (operandAddrs_ok h).2.2

/-- A store: the checks of a write, then the bytes, and nothing else. -/
theorem store_ok {s t : State} {seg : SegName} {ea : Dword} {bs : List Byte} {u : Unit}
    (h : s.store seg ea bs = .ok u t) :
    ∃ as s₁, s.operandAddrs seg ea bs.length true = .ok as s₁ ∧ PagingOnly s s₁ ∧
      t = s₁.setPhysMem (writeBytes s₁.physMem (storedCells s₁ as bs)) := by
  obtain ⟨as, s₁, h₁, h₂⟩ := Res.bind_ok.1 h
  exact ⟨as, s₁, h₁, operandAddrs_paging h₁, (writePhys_ok h₂).1⟩

theorem writeMem_ok {w : Nat} {s t : State} {p : List Pfx} {m : Mem} {n : Nat} {v : BitVec w} {u : Unit}
    (h : s.writeMem p m n v = .ok u t) :
    ∃ as s₁, s.operandAddrs (operandSeg p m) (s.ea m) n true = .ok as s₁ ∧ PagingOnly s s₁ ∧
      t = s₁.setPhysMem (writeBytes s₁.physMem (storedCells s₁ as (leBytes n v))) := by
  obtain ⟨as, s₁, h₁, h₂, h₃⟩ := store_ok h
  rw [leBytes_length] at h₁
  exact ⟨as, s₁, h₁, h₂, h₃⟩

/-! ## Taking an exception -/

/-- A push: two bytes at SS:SP - 2, and SP. -/
theorem push16_ok {s t : State} {v : Word16} {u : Unit} (h : s.push16 v = .ok u t) :
    ∃ as s₁, s.segAddrs .ss ((s.r16 rESP - 2).setWidth 32) 2 ⟨false, true⟩ = .ok as s₁ ∧ PagingOnly s s₁ ∧
      t = (s₁.setPhysMem (writeBytes s₁.physMem (storedCells s₁ as (leBytes 2 v)))).setR16 rESP (s.r16 rESP - 2) := by
  obtain ⟨as, s₁, h₁, h₂⟩ := Res.bind_ok.1 h
  obtain ⟨_, s₂, h₂, h₃⟩ := Res.bind_ok.1 h₂
  obtain ⟨rfl, -⟩ := writePhys_ok h₂
  injection h₃ with _ h₃
  exact ⟨as, s₁, h₁, segAddrs_paging h₁, h₃.symm⟩

theorem systemRead_ok {s t : State} {lin : Dword} {n : Nat} {bs : List Byte} (h : s.systemRead lin n = .ok bs t) :
    PagingOnly s t ∧ ∃ as, s.linAddrs lin n ⟨false, false⟩ = .ok as t ∧ bs = readBytes t.physMem as := by
  obtain ⟨as, s₁, h₁, h₂⟩ := Res.bind_ok.1 h
  obtain ⟨rfl, rfl, -⟩ := readPhys_ok h₂
  exact ⟨linAddrs_ok h₁, as, h₁, rfl⟩

/-- Real-mode delivery: three pushes, the table entry, CS:EIP, IF and TF. -/
theorem realDelivery_ok {s t : State} {vector : Byte} {savedEip : Dword} {clear : Bool} {u : Unit}
    (h : s.realDelivery vector savedEip clear = .ok u t) :
    ∃ s₁ s₂ s₃ s₄ bs,
      s.push16 (if clear then flagsWithoutNtIopl (s.eflags.extractLsb' 0 16) else s.eflags.extractLsb' 0 16) = .ok () s₁ ∧
      s₁.push16 s₁.segs.cs.sel = .ok () s₂ ∧ s₂.push16 (savedEip.extractLsb' 0 16) = .ok () s₃ ∧
      s₃.systemRead (vector.setWidth 32 <<< 2) 4 = .ok bs s₄ ∧
      t = { s₄ with
        eflags := setBit (setBit s₄.eflags bitIF false) bitTF false
        segs := { s₄.segs with cs := s₄.segs.cs.loadReal (leValue 16 (bs.drop 2)) }
        eip := (leValue 16 (bs.take 2)).setWidth 32 } := by
  obtain ⟨⟨⟩, s₁, h₁, h⟩ := Res.bind_ok.1 h
  obtain ⟨⟨⟩, s₂, h₂, h⟩ := Res.bind_ok.1 h
  obtain ⟨⟨⟩, s₃, h₃, h⟩ := Res.bind_ok.1 h
  obtain ⟨bs, s₄, h₄, h⟩ := Res.bind_ok.1 h
  injection h with _ h
  exact ⟨s₁, s₂, s₃, s₄, bs, h₁, h₂, h₃, h₄, h.symm⟩

/-- Accesses of a free delivery that all succeed change nothing but what paging changes. -/
theorem touch_ok {s t : State} {l : List (Dword × Bool)} {u : Unit} (h : s.touch l = .ok u t) : PagingOnly s t := by
  induction l generalizing s with
  | nil =>
    injection h with _ h
    exact h ▸ .refl s
  | cons x l ih =>
    obtain ⟨la, w⟩ := x
    unfold State.touch at h
    split at h
    · rename_i k
      exact (translate_ok k).trans (ih h)
    · contradiction
    · exact ih h

/-- With paging off every access succeeds, and nothing changes. -/
theorem touch_flat (s : State) (l : List (Dword × Bool)) (h : s.pg = false) : s.touch l = .ok () s := by
  induction l with
  | nil => rfl
  | cons x l ih =>
    unfold State.touch
    simp [State.translate, h, ih]

/-- Accesses never stop the machine. -/
theorem touch_stop (s : State) (l : List (Dword × Bool)) (x : Stop) : s.touch l ≠ .stop x := by
  induction l generalizing s with
  | nil => exact nofun
  | cons y l ih =>
    unfold State.touch
    split
    · exact ih _
    · exact nofun
    · exact ih s

/-- Nothing changed that no gate, stack switch or task switch writes (log 6). -/
def entryFrame (s t : State) : Prop :=
  t = { s with
    gpr := t.gpr, eip := t.eip, eflags := t.eflags, segs := t.segs, cpl := t.cpl, ldtr := t.ldtr, tr := t.tr
    cr0 := t.cr0, cr3 := t.cr3, dr := { s.dr with dr7 := t.dr.dr7 }, mem := t.mem, smram := t.smram, tlb := t.tlb
    shutdown := t.shutdown, draws := t.draws }

theorem entryFrame.trans {s t u : State} (h : entryFrame s t) (k : entryFrame t u) : entryFrame s u := by
  unfold entryFrame at *
  rw [h] at k
  simpa using k

theorem PagingOnly.entryFrame {s t : State} (h : PagingOnly s t) : entryFrame s t := by
  unfold Machine.entryFrame
  rw [h.fields]

theorem setPhysMem_frame (s : State) (m : Memory) : entryFrame s (s.setPhysMem m) := by
  unfold entryFrame State.setPhysMem
  split <;> rfl

theorem written_frame (s : State) (e : Entry) : entryFrame s (s.written e) := by
  refine (setPhysMem_frame s (writeBytes s.physMem (entryCells s e.writes))).trans ?_
  unfold State.written
  dsimp only
  split <;> rfl

theorem entered_frame (s : State) (e : Entry) : entryFrame s (s.entered e) := rfl

/-- What a delivery of the base machine leaves alone (log 6). -/
theorem freeDelivery_ok {s t : State} {c : Cause} {savedEip : Dword} {u : Unit}
    (h : s.freeDelivery c savedEip = .ok u t) : entryFrame s t := by
  unfold State.freeDelivery at h
  split at h
  · injection h with _ h
    exact h ▸ rfl
  · rename_i e _
    obtain ⟨⟨⟩, s₁, h₁, h⟩ := Res.bind_ok.1 h
    obtain ⟨⟨⟩, s₂, h₂, h⟩ := Res.bind_ok.1 h
    injection h with _ h
    subst h
    exact (((touch_ok h₁).entryFrame.trans (written_frame s₁ e)).trans (touch_ok h₂).entryFrame).trans
      (entered_frame s₂ e)

theorem push16_frame {s t : State} {v : Word16} {u : Unit} (h : s.push16 v = .ok u t) : entryFrame s t := by
  obtain ⟨as, s₁, -, k, rfl⟩ := push16_ok h
  exact (k.entryFrame.trans (setPhysMem_frame s₁ _)).trans rfl

theorem realDelivery_frame {s t : State} {vector : Byte} {savedEip : Dword} {clear : Bool} {u : Unit}
    (h : s.realDelivery vector savedEip clear = .ok u t) : entryFrame s t := by
  obtain ⟨s₁, s₂, s₃, s₄, bs, h₁, h₂, h₃, h₄, rfl⟩ := realDelivery_ok h
  exact ((((push16_frame h₁).trans (push16_frame h₂)).trans (push16_frame h₃)).trans
    (systemRead_ok h₄).1.entryFrame).trans rfl

theorem pl0Delivery_frame {s t : State} {g : Gate} {c : Cause} {savedEip : Dword} {u : Unit}
    (h : s.pl0Delivery g c savedEip = .ok u t) : entryFrame s t := by
  unfold State.pl0Delivery at h
  dsimp only at h
  split at h
  · contradiction
  · obtain ⟨as, s₁, h₁, h⟩ := Res.bind_ok.1 h
    obtain ⟨_, s₂, h₂, h⟩ := Res.bind_ok.1 h
    obtain ⟨rfl, -⟩ := writePhys_ok h₂
    injection h with _ h
    subst h
    exact ((linAddrs_ok h₁).entryFrame.trans (setPhysMem_frame s₁ _)).trans rfl

/-- What every delivery that goes on leaves alone, in every mode. -/
theorem deliver_frame {s t : State} {c : Cause} {savedEip : Dword} {u : Unit}
    (h : s.deliver c savedEip = .ok u t) : entryFrame s t := by
  unfold State.deliver at h
  split at h
  · exact realDelivery_frame h
  · exact realDelivery_frame h
  · split at h
    · exact realDelivery_frame h
    · split at h
      · exact pl0Delivery_frame h
      · exact freeDelivery_ok h
  · exact freeDelivery_ok h

theorem freeDelivery_stop (s : State) (c : Cause) (savedEip : Dword) (x : Stop) :
    s.freeDelivery c savedEip ≠ .stop x := by
  intro h
  have no {s : State} {l : List (Dword × Bool)} {k : Unit → State → Res Unit} (h : (s.touch l).bind k = .stop x) :
      ∃ u t, k u t = .stop x := by
    cases e : s.touch l with
    | ok u t => exact ⟨u, t, by rwa [e] at h⟩
    | exn y => rw [e] at h; contradiction
    | stop y => exact absurd e (touch_stop s l y)
  unfold State.freeDelivery at h
  split at h
  · contradiction
  · obtain ⟨_, _, h⟩ := no h
    obtain ⟨_, _, h⟩ := no h
    contradiction

/-- Nothing changed that no gate, stack switch or task switch writes, but what a failed delivery records (log 11). -/
def takenOverFrame (s t : State) : Prop := entryFrame { s with cr2 := t.cr2, deliveryExn := t.deliveryExn } t

theorem takenOverFrame.trans {s t u : State} (h : takenOverFrame s t) (k : takenOverFrame t u) : takenOverFrame s u := by
  unfold takenOverFrame entryFrame at *
  rw [h] at k
  simpa using k

theorem entryFrame.takenOver {s t : State} (h : entryFrame s t) : takenOverFrame s t := by
  unfold takenOverFrame entryFrame at *
  rw [h]

theorem touchAll_frame (s : State) (l : List (Dword × Bool)) : takenOverFrame s (s.touchAll l) := by
  induction l generalizing s with
  | nil => rfl
  | cons x l ih =>
    obtain ⟨la, w⟩ := x
    unfold State.touchAll
    split
    · rename_i s' h
      exact (translate_ok h).entryFrame.takenOver.trans (ih s')
    · rename_i e h
      exact takenOverFrame.trans (t := s.deliveryFailed e) rfl (ih _)
    · exact ih s

/-- What the base machine leaves alone when it takes over from a failed delivery. -/
theorem takenOver_frame (s : State) (c : Cause) (savedEip : Dword) : takenOverFrame s (s.takenOver c savedEip) := by
  unfold State.takenOver
  split
  · rfl
  · exact (((touchAll_frame s _).trans (written_frame _ _).takenOver).trans (touchAll_frame _ _)).trans
      (entered_frame _ _).takenOver

/-- A failed delivery that records a page fault holds its address in CR2 (20_memory R117). -/
theorem touchAll_cr2 (s : State) (l : List (Dword × Bool))
    (h : ∀ code la, s.deliveryExn = some (.pf code la) → s.cr2 = la) :
    ∀ code la, (s.touchAll l).deliveryExn = some (.pf code la) → (s.touchAll l).cr2 = la := by
  induction l generalizing s with
  | nil => exact h
  | cons x l ih =>
    obtain ⟨a, w⟩ := x
    unfold State.touchAll
    split
    · rename_i s' k
      refine ih s' ?_
      rw [(translate_ok k).fields]
      exact h
    · refine ih _ fun code la k => ?_
      injection k with k
      subst k
      rfl
    · exact ih s h

/-- A delivery that the base machine took over records its page fault, or a later one (log 11). -/
theorem touchAll_fault (s : State) (l : List (Dword × Bool)) (h : ∃ code la, s.deliveryExn = some (.pf code la)) :
    ∃ code la, (s.touchAll l).deliveryExn = some (.pf code la) := by
  induction l generalizing s with
  | nil => exact h
  | cons x l ih =>
    unfold State.touchAll
    split
    · rename_i k
      exact ih _ (by rwa [(translate_ok k).fields])
    · rename_i e k
      obtain ⟨code, rfl⟩ := translate_raises s _ _ e k
      exact ih _ ⟨code, _, rfl⟩
    · exact ih s h

theorem written_deliveryExn (s : State) (e : Entry) : (s.written e).deliveryExn = s.deliveryExn := by
  rw [written_frame s e]

theorem takenOver_fault (s : State) (c : Cause) (savedEip : Dword) (h : ∃ code la, s.deliveryExn = some (.pf code la)) :
    ∃ code la, (s.takenOver c savedEip).deliveryExn = some (.pf code la) := by
  unfold State.takenOver
  split
  · exact h
  · exact touchAll_fault _ _ ((written_deliveryExn ..).symm ▸ touchAll_fault s _ h)

/-- VIF and VIP stay in a mode without tasks (10_state R24). -/
theorem entryFlags_virtual (s : State) (e : Entry) (h : s.switches e = false) (k : Nat) (hk : k = bitVIF ∨ k = bitVIP) :
    (s.entryFlags e).getLsbD k = s.flag k := by
  unfold State.entryFlags virtualFlags
  simp only [h]
  rcases hk with rfl | rfl <;> simp [State.flag, bitVIF, bitVIP]

/-- A task switch loads CR3, and a load of CR3 forgets the remembered walks (20_memory R119). -/
theorem taskSwitch_tlb (s : State) (e : Entry) :
    (s.taskSwitch e).tlb = if s.pge then s.tlb.filter (·.global) else [] := rfl

/-- What the raise side leaves alone, for what the delivery reads (60 R501). -/
@[simp] theorem raised_mode (s : State) (c : Cause) (a : Dword) : (s.raised c a).mode = s.mode := rfl
@[simp] theorem raised_pg (s : State) (c : Cause) (a : Dword) : (s.raised c a).pg = s.pg := rfl
@[simp] theorem raised_gpr (s : State) (c : Cause) (a : Dword) : (s.raised c a).gpr = s.gpr := rfl
@[simp] theorem raised_segs (s : State) (c : Cause) (a : Dword) : (s.raised c a).segs = s.segs := rfl
@[simp] theorem raised_eflags (s : State) (c : Cause) (a : Dword) : (s.raised c a).eflags = s.eflags := rfl
@[simp] theorem raised_physMem (s : State) (c : Cause) (a : Dword) : (s.raised c a).physMem = s.physMem := rfl

/-- DR6 is written by a debug exception only (60 R592). -/
theorem raised_dr (s : State) (c : Cause) (a : Dword) (h : c ≠ .singleStep) : (s.raised c a).dr = s.dr := by
  simp [State.raised, State.statusAfter, h]

/-- In protected mode everything raised is delivered, or the base machine takes over. -/
theorem raise_prot {s : State} (h : s.mode = .prot) (c : Cause) (savedEip : Dword) : ∃ t, raise c savedEip s = .next t := by
  unfold raise State.deliver
  rw [raised_mode, h]
  dsimp only
  split
  · exact ⟨_, rfl⟩
  · exact ⟨_, rfl⟩
  · exact absurd ‹_› (freeDelivery_stop _ _ _ _)

/-- An event that goes on was delivered, or the base machine took over from the exception of its delivery. -/
theorem raise_next {c : Cause} {savedEip : Dword} {s t : State} (h : raise c savedEip s = .next t) :
    (s.raised c savedEip).deliver c savedEip = .ok () t ∨
      ∃ e, (s.raised c savedEip).deliver c savedEip = .exn e ∧
        t = ((s.raised c savedEip).deliveryFailed e).takenOver c savedEip := by
  unfold raise at h
  split at h
  · injection h with h
    subst h
    exact .inl ‹_›
  · injection h with h
    exact .inr ⟨_, ‹_›, h.symm⟩
  · rename_i x _
    cases x <;> contradiction

/-- A software interrupt that goes on was delivered, or the exception of its delivery was taken. -/
theorem raiseSoftware_next {c : Cause} {savedEip : Dword} {s t : State} (h : raiseSoftware c savedEip s = .next t) :
    (s.raised c savedEip).deliver c savedEip = .ok () t ∨
      ∃ e, (s.raised c savedEip).deliver c savedEip = .exn e ∧ takeException e s = .next t := by
  unfold raiseSoftware at h
  split at h
  · injection h with h
    subst h
    exact .inl ‹_›
  · exact .inr ⟨_, ‹_›, h⟩
  · rename_i x _
    cases x <;> contradiction

/-! ## Fetching -/

theorem fetchByte_ok {s t : State} {k : Nat} {b : Byte} (h : s.fetchByte k = .ok b t) : PagingOnly s t := by
  obtain ⟨as, s₁, h₁, h₂⟩ := Res.bind_ok.1 h
  obtain ⟨bs, s₂, h₃, h₄⟩ := Res.bind_ok.1 h₂
  obtain ⟨rfl, -, -⟩ := readPhys_ok h₃
  injection h₄ with _ h₄
  exact h₄ ▸ segAddrs_paging h₁

theorem fetchFrom_ok {n : Nat} {s t : State} {got : List Byte} {d : Decoded} (h : fetchFrom n s got = .ok d t) :
    PagingOnly s t := by
  induction n generalizing s got with
  | zero => contradiction
  | succ n ih =>
    obtain ⟨b, s₁, h₁, h⟩ := Res.bind_ok.1 h
    have k := fetchByte_ok h₁
    split at h
    · exact k.trans (ih h)
    all_goals
      injection h with _ h
      exact h ▸ k

/-- A fetch changes nothing but what paging changes. -/
theorem fetch_ok {s t : State} {d : Decoded} (h : s.fetch = .ok d t) : PagingOnly s t := fetchFrom_ok h

/-- An instruction that begins with TF clear and no single step pending begins as it is. -/
theorem begun_of_clear {s : State} (h : s.flag bitTF = false) (k : s.stepTrap = false) : s.begun = s := by
  rw [State.begun, h, ← k]

@[simp] theorem begun_mode (s : State) : s.begun.mode = s.mode := rfl
@[simp] theorem begun_physMem (s : State) : s.begun.physMem = s.physMem := rfl

/-- A completed step of an instruction: what `exec` gives, then time passes. -/
theorem fetchRun_instr {s t : State} {i : Instr} (h : s.fetch = .ok (.instr i) t) :
    fetchRun s = exec i t.begun := by
  simp only [fetchRun, h, runDecoded]

end Sys2Proof.Machine
end

