-- ==== Sys2Proof/Laws/PerInstr.lean ====
section
/-! SUPPORT. Statements about every instruction as syntax, one lemma a constructor. -/

namespace Sys2Proof.Laws

theorem mem_encode_length (reg : RegNum) (m : Mem) : (m.encode reg).length = 1 + m.size := by
  cases m with
  | based16 _ disp => cases disp <;> simp [Mem.encode, Mem.size, Disp16.bytes, Disp16.size, bytes16]
  | abs16 d => simp [Mem.encode, Mem.size, bytes16]
  | based32 _ disp => cases disp <;> simp [Mem.encode, Mem.size, Disp32.bytes, Disp32.size, bytes32]
  | abs32 d => simp [Mem.encode, Mem.size, bytes32]
  | sib _ _ _ disp => cases disp <;> simp [Mem.encode, Mem.size, Disp32.bytes, Disp32.size, bytes32]
  | sibNoBase _ _ d => simp [Mem.encode, Mem.size, bytes32]

theorem rm_encode_length (reg : RegNum) (x : Rm) : (x.encode reg).length = x.size := by
  cases x with
  | reg r => simp [Rm.encode, Rm.size]
  | mem m => simpa [Rm.encode, Rm.size] using mem_encode_length reg m

end Sys2Proof.Laws

namespace Sys2Proof.Laws.EncodeLength

/-- The encoding of an instruction has the length the machine adds to EIP (10_state R22). -/
def Statement (i : Instr) : Prop := (encode i).length = i.length

/-- The four shapes. -/
theorem of_bare (i : Instr) (op : Byte) (h : i.shape = .bare op) (k : i.parts.2 = .bare) : Statement i := by
  simp [Statement, encode, Instr.length, h, k, Shape.encode, Body.size]

theorem of_modrm (i : Instr) (op : Byte) (reg : RegNum) (x : Rm) (h : i.shape = .modrm op reg x)
    (k : i.parts.2 = .rm x) : Statement i := by
  simp only [Statement, encode, Instr.length, h, k, Shape.encode, Body.size, List.length_append, List.length_map,
    List.length_cons, rm_encode_length]
  omega

theorem of_imm (i : Instr) (op : Byte) (g d : RegNum) (n : Byte) (h : i.shape = .imm op g d n)
    (k : i.parts.2 = .imm) : Statement i := by
  simp [Statement, encode, Instr.length, h, k, Shape.encode, Body.size]

theorem of_stack (i : Instr) (e : Byte) (reg n : RegNum) (h : i.shape = .stack e reg n) (k : i.parts.2 = .stack) :
    Statement i := by
  simp [Statement, encode, Instr.length, h, k, Shape.encode, Body.size]

theorem ud2 (p : List Pfx) : Statement (.ud2 p) := of_bare _ _ rfl rfl
theorem wrmsr (p : List Pfx) : Statement (.wrmsr p) := of_bare _ _ rfl rfl
theorem rdtsc (p : List Pfx) : Statement (.rdtsc p) := of_bare _ _ rfl rfl
theorem rdmsr (p : List Pfx) : Statement (.rdmsr p) := of_bare _ _ rfl rfl
theorem rdpmc (p : List Pfx) : Statement (.rdpmc p) := of_bare _ _ rfl rfl
theorem cmovo (p : List Pfx) (d : RegNum) (x : Rm) : Statement (.cmovo p d x) := of_modrm _ _ _ _ rfl rfl
theorem cmovno (p : List Pfx) (d : RegNum) (x : Rm) : Statement (.cmovno p d x) := of_modrm _ _ _ _ rfl rfl
theorem cmovb (p : List Pfx) (d : RegNum) (x : Rm) : Statement (.cmovb p d x) := of_modrm _ _ _ _ rfl rfl
theorem cmovae (p : List Pfx) (d : RegNum) (x : Rm) : Statement (.cmovae p d x) := of_modrm _ _ _ _ rfl rfl
theorem cmove (p : List Pfx) (d : RegNum) (x : Rm) : Statement (.cmove p d x) := of_modrm _ _ _ _ rfl rfl
theorem cmovne (p : List Pfx) (d : RegNum) (x : Rm) : Statement (.cmovne p d x) := of_modrm _ _ _ _ rfl rfl
theorem cmovbe (p : List Pfx) (d : RegNum) (x : Rm) : Statement (.cmovbe p d x) := of_modrm _ _ _ _ rfl rfl
theorem cmova (p : List Pfx) (d : RegNum) (x : Rm) : Statement (.cmova p d x) := of_modrm _ _ _ _ rfl rfl
theorem cmovs (p : List Pfx) (d : RegNum) (x : Rm) : Statement (.cmovs p d x) := of_modrm _ _ _ _ rfl rfl
theorem cmovns (p : List Pfx) (d : RegNum) (x : Rm) : Statement (.cmovns p d x) := of_modrm _ _ _ _ rfl rfl
theorem cmovp (p : List Pfx) (d : RegNum) (x : Rm) : Statement (.cmovp p d x) := of_modrm _ _ _ _ rfl rfl
theorem cmovnp (p : List Pfx) (d : RegNum) (x : Rm) : Statement (.cmovnp p d x) := of_modrm _ _ _ _ rfl rfl
theorem cmovl (p : List Pfx) (d : RegNum) (x : Rm) : Statement (.cmovl p d x) := of_modrm _ _ _ _ rfl rfl
theorem cmovge (p : List Pfx) (d : RegNum) (x : Rm) : Statement (.cmovge p d x) := of_modrm _ _ _ _ rfl rfl
theorem cmovle (p : List Pfx) (d : RegNum) (x : Rm) : Statement (.cmovle p d x) := of_modrm _ _ _ _ rfl rfl
theorem cmovg (p : List Pfx) (d : RegNum) (x : Rm) : Statement (.cmovg p d x) := of_modrm _ _ _ _ rfl rfl
theorem punpcklbw (p : List Pfx) (d : RegNum) (x : Rm) : Statement (.punpcklbw p d x) := of_modrm _ _ _ _ rfl rfl
theorem punpcklwd (p : List Pfx) (d : RegNum) (x : Rm) : Statement (.punpcklwd p d x) := of_modrm _ _ _ _ rfl rfl
theorem punpckldq (p : List Pfx) (d : RegNum) (x : Rm) : Statement (.punpckldq p d x) := of_modrm _ _ _ _ rfl rfl
theorem packsswb (p : List Pfx) (d : RegNum) (x : Rm) : Statement (.packsswb p d x) := of_modrm _ _ _ _ rfl rfl
theorem pcmpgtb (p : List Pfx) (d : RegNum) (x : Rm) : Statement (.pcmpgtb p d x) := of_modrm _ _ _ _ rfl rfl
theorem pcmpgtw (p : List Pfx) (d : RegNum) (x : Rm) : Statement (.pcmpgtw p d x) := of_modrm _ _ _ _ rfl rfl
theorem pcmpgtd (p : List Pfx) (d : RegNum) (x : Rm) : Statement (.pcmpgtd p d x) := of_modrm _ _ _ _ rfl rfl
theorem packuswb (p : List Pfx) (d : RegNum) (x : Rm) : Statement (.packuswb p d x) := of_modrm _ _ _ _ rfl rfl
theorem punpckhbw (p : List Pfx) (d : RegNum) (x : Rm) : Statement (.punpckhbw p d x) := of_modrm _ _ _ _ rfl rfl
theorem punpckhwd (p : List Pfx) (d : RegNum) (x : Rm) : Statement (.punpckhwd p d x) := of_modrm _ _ _ _ rfl rfl
theorem punpckhdq (p : List Pfx) (d : RegNum) (x : Rm) : Statement (.punpckhdq p d x) := of_modrm _ _ _ _ rfl rfl
theorem packssdw (p : List Pfx) (d : RegNum) (x : Rm) : Statement (.packssdw p d x) := of_modrm _ _ _ _ rfl rfl
theorem movdLoad (p : List Pfx) (d : RegNum) (x : Rm) : Statement (.movdLoad p d x) := of_modrm _ _ _ _ rfl rfl
theorem movqLoad (p : List Pfx) (d : RegNum) (x : Rm) : Statement (.movqLoad p d x) := of_modrm _ _ _ _ rfl rfl
theorem psrlwImm (p : List Pfx) (d : RegNum) (n : Byte) : Statement (.psrlwImm p d n) := of_imm _ _ _ _ _ rfl rfl
theorem psrawImm (p : List Pfx) (d : RegNum) (n : Byte) : Statement (.psrawImm p d n) := of_imm _ _ _ _ _ rfl rfl
theorem psllwImm (p : List Pfx) (d : RegNum) (n : Byte) : Statement (.psllwImm p d n) := of_imm _ _ _ _ _ rfl rfl
theorem psrldImm (p : List Pfx) (d : RegNum) (n : Byte) : Statement (.psrldImm p d n) := of_imm _ _ _ _ _ rfl rfl
theorem psradImm (p : List Pfx) (d : RegNum) (n : Byte) : Statement (.psradImm p d n) := of_imm _ _ _ _ _ rfl rfl
theorem pslldImm (p : List Pfx) (d : RegNum) (n : Byte) : Statement (.pslldImm p d n) := of_imm _ _ _ _ _ rfl rfl
theorem psrlqImm (p : List Pfx) (d : RegNum) (n : Byte) : Statement (.psrlqImm p d n) := of_imm _ _ _ _ _ rfl rfl
theorem psllqImm (p : List Pfx) (d : RegNum) (n : Byte) : Statement (.psllqImm p d n) := of_imm _ _ _ _ _ rfl rfl
theorem pcmpeqb (p : List Pfx) (d : RegNum) (x : Rm) : Statement (.pcmpeqb p d x) := of_modrm _ _ _ _ rfl rfl
theorem pcmpeqw (p : List Pfx) (d : RegNum) (x : Rm) : Statement (.pcmpeqw p d x) := of_modrm _ _ _ _ rfl rfl
theorem pcmpeqd (p : List Pfx) (d : RegNum) (x : Rm) : Statement (.pcmpeqd p d x) := of_modrm _ _ _ _ rfl rfl
theorem emms (p : List Pfx) : Statement (.emms p) := of_bare _ _ rfl rfl
theorem movdStore (p : List Pfx) (d : RegNum) (x : Rm) : Statement (.movdStore p d x) := of_modrm _ _ _ _ rfl rfl
theorem movqStore (p : List Pfx) (d : RegNum) (x : Rm) : Statement (.movqStore p d x) := of_modrm _ _ _ _ rfl rfl
theorem cpuid (p : List Pfx) : Statement (.cpuid p) := of_bare _ _ rfl rfl
theorem rsm (p : List Pfx) : Statement (.rsm p) := of_bare _ _ rfl rfl
theorem cmpxchg8b (p : List Pfx) (x : Rm) : Statement (.cmpxchg8b p x) := of_modrm _ _ _ _ rfl rfl
theorem psrlw (p : List Pfx) (d : RegNum) (x : Rm) : Statement (.psrlw p d x) := of_modrm _ _ _ _ rfl rfl
theorem psrld (p : List Pfx) (d : RegNum) (x : Rm) : Statement (.psrld p d x) := of_modrm _ _ _ _ rfl rfl
theorem psrlq (p : List Pfx) (d : RegNum) (x : Rm) : Statement (.psrlq p d x) := of_modrm _ _ _ _ rfl rfl
theorem pmullw (p : List Pfx) (d : RegNum) (x : Rm) : Statement (.pmullw p d x) := of_modrm _ _ _ _ rfl rfl
theorem psubusb (p : List Pfx) (d : RegNum) (x : Rm) : Statement (.psubusb p d x) := of_modrm _ _ _ _ rfl rfl
theorem psubusw (p : List Pfx) (d : RegNum) (x : Rm) : Statement (.psubusw p d x) := of_modrm _ _ _ _ rfl rfl
theorem pand (p : List Pfx) (d : RegNum) (x : Rm) : Statement (.pand p d x) := of_modrm _ _ _ _ rfl rfl
theorem paddusb (p : List Pfx) (d : RegNum) (x : Rm) : Statement (.paddusb p d x) := of_modrm _ _ _ _ rfl rfl
theorem paddusw (p : List Pfx) (d : RegNum) (x : Rm) : Statement (.paddusw p d x) := of_modrm _ _ _ _ rfl rfl
theorem pandn (p : List Pfx) (d : RegNum) (x : Rm) : Statement (.pandn p d x) := of_modrm _ _ _ _ rfl rfl
theorem psraw (p : List Pfx) (d : RegNum) (x : Rm) : Statement (.psraw p d x) := of_modrm _ _ _ _ rfl rfl
theorem psrad (p : List Pfx) (d : RegNum) (x : Rm) : Statement (.psrad p d x) := of_modrm _ _ _ _ rfl rfl
theorem pmulhw (p : List Pfx) (d : RegNum) (x : Rm) : Statement (.pmulhw p d x) := of_modrm _ _ _ _ rfl rfl
theorem psubsb (p : List Pfx) (d : RegNum) (x : Rm) : Statement (.psubsb p d x) := of_modrm _ _ _ _ rfl rfl
theorem psubsw (p : List Pfx) (d : RegNum) (x : Rm) : Statement (.psubsw p d x) := of_modrm _ _ _ _ rfl rfl
theorem por (p : List Pfx) (d : RegNum) (x : Rm) : Statement (.por p d x) := of_modrm _ _ _ _ rfl rfl
theorem paddsb (p : List Pfx) (d : RegNum) (x : Rm) : Statement (.paddsb p d x) := of_modrm _ _ _ _ rfl rfl
theorem paddsw (p : List Pfx) (d : RegNum) (x : Rm) : Statement (.paddsw p d x) := of_modrm _ _ _ _ rfl rfl
theorem pxor (p : List Pfx) (d : RegNum) (x : Rm) : Statement (.pxor p d x) := of_modrm _ _ _ _ rfl rfl
theorem psllw (p : List Pfx) (d : RegNum) (x : Rm) : Statement (.psllw p d x) := of_modrm _ _ _ _ rfl rfl
theorem pslld (p : List Pfx) (d : RegNum) (x : Rm) : Statement (.pslld p d x) := of_modrm _ _ _ _ rfl rfl
theorem psllq (p : List Pfx) (d : RegNum) (x : Rm) : Statement (.psllq p d x) := of_modrm _ _ _ _ rfl rfl
theorem pmaddwd (p : List Pfx) (d : RegNum) (x : Rm) : Statement (.pmaddwd p d x) := of_modrm _ _ _ _ rfl rfl
theorem psubb (p : List Pfx) (d : RegNum) (x : Rm) : Statement (.psubb p d x) := of_modrm _ _ _ _ rfl rfl
theorem psubw (p : List Pfx) (d : RegNum) (x : Rm) : Statement (.psubw p d x) := of_modrm _ _ _ _ rfl rfl
theorem psubd (p : List Pfx) (d : RegNum) (x : Rm) : Statement (.psubd p d x) := of_modrm _ _ _ _ rfl rfl
theorem paddb (p : List Pfx) (d : RegNum) (x : Rm) : Statement (.paddb p d x) := of_modrm _ _ _ _ rfl rfl
theorem paddw (p : List Pfx) (d : RegNum) (x : Rm) : Statement (.paddw p d x) := of_modrm _ _ _ _ rfl rfl
theorem paddd (p : List Pfx) (d : RegNum) (x : Rm) : Statement (.paddd p d x) := of_modrm _ _ _ _ rfl rfl
theorem fcmovb (p : List Pfx) (i : RegNum) : Statement (.fcmovb p i) := of_stack _ _ _ _ rfl rfl
theorem fcmove (p : List Pfx) (i : RegNum) : Statement (.fcmove p i) := of_stack _ _ _ _ rfl rfl
theorem fcmovbe (p : List Pfx) (i : RegNum) : Statement (.fcmovbe p i) := of_stack _ _ _ _ rfl rfl
theorem fcmovu (p : List Pfx) (i : RegNum) : Statement (.fcmovu p i) := of_stack _ _ _ _ rfl rfl
theorem fcmovnb (p : List Pfx) (i : RegNum) : Statement (.fcmovnb p i) := of_stack _ _ _ _ rfl rfl
theorem fcmovne (p : List Pfx) (i : RegNum) : Statement (.fcmovne p i) := of_stack _ _ _ _ rfl rfl
theorem fcmovnbe (p : List Pfx) (i : RegNum) : Statement (.fcmovnbe p i) := of_stack _ _ _ _ rfl rfl
theorem fcmovnu (p : List Pfx) (i : RegNum) : Statement (.fcmovnu p i) := of_stack _ _ _ _ rfl rfl
theorem fucomi (p : List Pfx) (i : RegNum) : Statement (.fucomi p i) := of_stack _ _ _ _ rfl rfl
theorem fcomi (p : List Pfx) (i : RegNum) : Statement (.fcomi p i) := of_stack _ _ _ _ rfl rfl
theorem fucomip (p : List Pfx) (i : RegNum) : Statement (.fucomip p i) := of_stack _ _ _ _ rfl rfl
theorem fcomip (p : List Pfx) (i : RegNum) : Statement (.fcomip p i) := of_stack _ _ _ _ rfl rfl

end Sys2Proof.Laws.EncodeLength
end

