-- ==== Sys2Proof/Tests/Slice0.lean ====
section
/-! SUPPORT. Tests: ill-formed terms are refused, words written out from the encoding rules decode, the vectors of
spec 95_test_vectors part B and the rules' own examples come out, and for every obligation with hypotheses a concrete
state and operands that meet them. -/

namespace Sys2Proof.Tests

open Sys2Proof Sys2Proof.Machine

/-! ## Helpers -/

/-- The state an outcome goes on with. -/
def stateOf : Outcome → Option State
  | .next s => some s
  | .fault _ => none
  | .refused _ => none

/-- Why an outcome is refused. -/
def refusalOf : Outcome → Option Refusal
  | .next _ => none
  | .fault _ => none
  | .refused r => some r

/-- MMX register `k` after a step. -/
def mmAfter (k : RegNum) (o : Outcome) : Option Qword := (stateOf o).map fun s => s.mm k

/-- Two MMX registers. -/
def pair (a b : Qword) : State := (State.reset.setMm 0 a).setMm 1 b

/-- Bytes from a physical address on. -/
def withBytes (s : State) (a : Nat) (bs : List Byte) : State :=
  { s with mem := writeBytes s.mem ((span a bs.length).zip bs) }

/-- The last exception taken: vector, error code, saved EIP. -/
def raisedBy (o : Outcome) : Option Raised := (stateOf o).bind fun s => s.lastExn

/-- Protected mode at a privilege level, 32-bit code, flat segments at base 0. -/
def protAt (cpl : BitVec 2) : State :=
  let flat : Seg := { sel := 8, base := 0, limit := 0xFFFFFFFF, writable := true, big := true }
  { State.reset with cr0 := 0x60000011, cpl := cpl, segs := ⟨flat, flat, flat, flat, flat, flat⟩ }

/-- Rows `(destination, source, result)` of a two-operand MMX instruction. -/
abbrev onPairs (f : List Pfx → RegNum → Rm → Instr) (rows : List (Qword × Qword × Qword)) : Prop :=
  rows.all fun r => mmAfter 0 (exec (f [] 0 (.reg 1)) (pair r.1 r.2.1)) == some r.2.2

/-- Rows `(count, result)` of an MMX shift of 8001FFFF7FFF0180h by a register. -/
abbrev onCounts (f : List Pfx → RegNum → Rm → Instr) (rows : List (Qword × Qword)) : Prop :=
  rows.all fun r => mmAfter 0 (exec (f [] 0 (.reg 1)) (pair 0x8001FFFF7FFF0180 r.1)) == some r.2

/-- Rows `(count, result)` of the same shift by an immediate byte. -/
abbrev onImmediates (f : List Pfx → RegNum → Byte → Instr) (rows : List (Byte × Qword)) : Prop :=
  rows.all fun r => mmAfter 0 (exec (f [] 0 r.1) (pair 0x8001FFFF7FFF0180 0)) == some r.2

/-- Rows `(bytes, instruction)` in a 32-bit code segment: decoding reads the instruction, and encoding gives the bytes. -/
abbrev decodesTo (rows : List (List Byte × Instr)) : Prop :=
  ∀ r ∈ rows, decode true r.1 = .instr r.2 ∧ encode r.2 = r.1

/-! ## Ill-formed terms are refused -/

/-- 30_encoding R140: at most 15 bytes; 12 bytes before a three-byte instruction fit, 13 do not. -/
theorem test_wf_length :
    (Instr.paddb (List.replicate 12 .rep) 1 (.reg 2)).wf true = true ∧
    (Instr.paddb (List.replicate 13 .rep) 1 (.reg 2)).wf true = false := by decide

/-- 30_encoding R147: a form of the other address size. -/
theorem test_wf_address_size :
    (Instr.movqLoad [] 0 (.mem (.based32 3 .none))).wf true = true ∧
    (Instr.movqLoad [] 0 (.mem (.based32 3 .none))).wf false = false ∧
    (Instr.movqLoad [] 0 (.mem (.based16 4 .none))).wf true = false ∧
    (Instr.movqLoad [.addrSize] 0 (.mem (.based16 4 .none))).wf true = true ∧
    (Instr.movqLoad [.addrSize] 0 (.mem (.based32 3 .none))).wf true = false := by decide

/-- 30_encoding R150, R151, R153: the rows of ModR/M and SIB that mean something else. -/
theorem test_wf_canonical :
    (Instr.pxor [] 0 (.mem (.based16 6 .none))).wf false = false ∧
    (Instr.pxor [] 0 (.mem (.based32 4 .none))).wf true = false ∧
    (Instr.pxor [] 0 (.mem (.based32 4 (.d8 0)))).wf true = false ∧
    (Instr.pxor [] 0 (.mem (.based32 5 .none))).wf true = false ∧
    (Instr.pxor [] 0 (.mem (.sib 0 1 5 .none))).wf true = false := by decide

/-- 46 R354 and 00_scope R6: configurations that contradict themselves. -/
theorem test_wf_config :
    Config.default.wf = true ∧
    Config.wf { Config.default with mmx := false } = false ∧
    Config.wf { Config.default with cmov := false } = false ∧
    Config.wf { Config.default with family := .p5 } = false ∧
    Config.wf { Config.default with features := 0x0080A1BF } = false ∧
    Config.wf { Config.default with features := 0x008081FF } = false ∧
    Config.wf { Config.default with features := 0x0080A1EF } = false ∧
    Config.wf { Config.default with features := 0x0080A1FD } = false ∧
    Config.wf { Config.default with family := .p5, features := 0x008001BF } = true ∧
    Config.wf { Config.default with family := .p5, features := 0x008001BF, msrValid := [0x10] } = false := by decide

/-! ## Decoding -/

theorem test_decode_p6_system : decodesTo [
    ([0x0F, 0x0B], .ud2 []),
    ([0x0F, 0x30], .wrmsr []),
    ([0x0F, 0x31], .rdtsc []),
    ([0x0F, 0x32], .rdmsr []),
    ([0x0F, 0x33], .rdpmc [])] := by decide

theorem test_decode_cmov : decodesTo [
    ([0x0F, 0x40, 0xCA], .cmovo [] 1 (.reg 2)),
    ([0x0F, 0x41, 0x04, 0x83], .cmovno [] 0 (.mem (.sib 2 0 3 .none))),
    ([0x0F, 0x42, 0x45, 0xF8], .cmovb [] 0 (.mem (.based32 5 (.d8 0xF8)))),
    ([0x0F, 0x43, 0x3D, 0x00, 0x20, 0x00, 0x00], .cmovae [] 7 (.mem (.abs32 0x2000))),
    ([0x0F, 0x44, 0x1E], .cmove [] 3 (.mem (.based32 6 .none))),
    ([0x0F, 0x45, 0x94, 0x24, 0x78, 0x56, 0x34, 0x12], .cmovne [] 2 (.mem (.sib 0 4 4 (.d32 0x12345678)))),
    ([0x0F, 0x46, 0x0C, 0x6D, 0x01, 0x00, 0x00, 0x00], .cmovbe [] 1 (.mem (.sibNoBase 1 5 1))),
    ([0x0F, 0x47, 0xCA], .cmova [] 1 (.reg 2)),
    ([0x0F, 0x48, 0x04, 0x83], .cmovs [] 0 (.mem (.sib 2 0 3 .none))),
    ([0x0F, 0x49, 0x45, 0xF8], .cmovns [] 0 (.mem (.based32 5 (.d8 0xF8)))),
    ([0x0F, 0x4A, 0x3D, 0x00, 0x20, 0x00, 0x00], .cmovp [] 7 (.mem (.abs32 0x2000))),
    ([0x0F, 0x4B, 0x1E], .cmovnp [] 3 (.mem (.based32 6 .none))),
    ([0x0F, 0x4C, 0x94, 0x24, 0x78, 0x56, 0x34, 0x12], .cmovl [] 2 (.mem (.sib 0 4 4 (.d32 0x12345678)))),
    ([0x0F, 0x4D, 0x0C, 0x6D, 0x01, 0x00, 0x00, 0x00], .cmovge [] 1 (.mem (.sibNoBase 1 5 1))),
    ([0x0F, 0x4E, 0xCA], .cmovle [] 1 (.reg 2)),
    ([0x0F, 0x4F, 0x04, 0x83], .cmovg [] 0 (.mem (.sib 2 0 3 .none)))] := by decide

theorem test_decode_mmx_60 : decodesTo [
    ([0x0F, 0x60, 0x45, 0xF8], .punpcklbw [] 0 (.mem (.based32 5 (.d8 0xF8)))),
    ([0x0F, 0x61, 0x3D, 0x00, 0x20, 0x00, 0x00], .punpcklwd [] 7 (.mem (.abs32 0x2000))),
    ([0x0F, 0x62, 0x1E], .punpckldq [] 3 (.mem (.based32 6 .none))),
    ([0x0F, 0x63, 0x94, 0x24, 0x78, 0x56, 0x34, 0x12], .packsswb [] 2 (.mem (.sib 0 4 4 (.d32 0x12345678)))),
    ([0x0F, 0x64, 0x0C, 0x6D, 0x01, 0x00, 0x00, 0x00], .pcmpgtb [] 1 (.mem (.sibNoBase 1 5 1))),
    ([0x0F, 0x65, 0xCA], .pcmpgtw [] 1 (.reg 2)),
    ([0x0F, 0x66, 0x04, 0x83], .pcmpgtd [] 0 (.mem (.sib 2 0 3 .none))),
    ([0x0F, 0x67, 0x45, 0xF8], .packuswb [] 0 (.mem (.based32 5 (.d8 0xF8)))),
    ([0x0F, 0x68, 0x3D, 0x00, 0x20, 0x00, 0x00], .punpckhbw [] 7 (.mem (.abs32 0x2000))),
    ([0x0F, 0x69, 0x1E], .punpckhwd [] 3 (.mem (.based32 6 .none))),
    ([0x0F, 0x6A, 0x94, 0x24, 0x78, 0x56, 0x34, 0x12], .punpckhdq [] 2 (.mem (.sib 0 4 4 (.d32 0x12345678)))),
    ([0x0F, 0x6B, 0x0C, 0x6D, 0x01, 0x00, 0x00, 0x00], .packssdw [] 1 (.mem (.sibNoBase 1 5 1))),
    ([0x0F, 0x6E, 0xCA], .movdLoad [] 1 (.reg 2)),
    ([0x0F, 0x6F, 0x04, 0x83], .movqLoad [] 0 (.mem (.sib 2 0 3 .none)))] := by decide

theorem test_decode_mmx_imm : decodesTo [
    ([0x0F, 0x71, 0xD6, 0x7B], .psrlwImm [] 6 0x7B),
    ([0x0F, 0x71, 0xE7, 0xA0], .psrawImm [] 7 0xA0),
    ([0x0F, 0x71, 0xF0, 0xC5], .psllwImm [] 0 0xC5),
    ([0x0F, 0x72, 0xD1, 0xEA], .psrldImm [] 1 0xEA),
    ([0x0F, 0x72, 0xE2, 0x0F], .psradImm [] 2 0x0F),
    ([0x0F, 0x72, 0xF3, 0x34], .pslldImm [] 3 0x34),
    ([0x0F, 0x73, 0xD4, 0x59], .psrlqImm [] 4 0x59),
    ([0x0F, 0x73, 0xF5, 0x7E], .psllqImm [] 5 0x7E)] := by decide

theorem test_decode_mmx_70 : decodesTo [
    ([0x0F, 0x74, 0x3D, 0x00, 0x20, 0x00, 0x00], .pcmpeqb [] 7 (.mem (.abs32 0x2000))),
    ([0x0F, 0x75, 0x1E], .pcmpeqw [] 3 (.mem (.based32 6 .none))),
    ([0x0F, 0x76, 0x94, 0x24, 0x78, 0x56, 0x34, 0x12], .pcmpeqd [] 2 (.mem (.sib 0 4 4 (.d32 0x12345678)))),
    ([0x0F, 0x77], .emms []),
    ([0x0F, 0x7E, 0x0C, 0x6D, 0x01, 0x00, 0x00, 0x00], .movdStore [] 1 (.mem (.sibNoBase 1 5 1))),
    ([0x0F, 0x7F, 0xCA], .movqStore [] 1 (.reg 2)),
    ([0x0F, 0xA2], .cpuid []),
    ([0x0F, 0xAA], .rsm []),
    ([0x0F, 0xC7, 0x0E], .cmpxchg8b [] (.mem (.based32 6 .none)))] := by decide

theorem test_decode_mmx_d0 : decodesTo [
    ([0x0F, 0xD1, 0x04, 0x83], .psrlw [] 0 (.mem (.sib 2 0 3 .none))),
    ([0x0F, 0xD2, 0x45, 0xF8], .psrld [] 0 (.mem (.based32 5 (.d8 0xF8)))),
    ([0x0F, 0xD3, 0x3D, 0x00, 0x20, 0x00, 0x00], .psrlq [] 7 (.mem (.abs32 0x2000))),
    ([0x0F, 0xD5, 0x1E], .pmullw [] 3 (.mem (.based32 6 .none))),
    ([0x0F, 0xD8, 0x94, 0x24, 0x78, 0x56, 0x34, 0x12], .psubusb [] 2 (.mem (.sib 0 4 4 (.d32 0x12345678)))),
    ([0x0F, 0xD9, 0x0C, 0x6D, 0x01, 0x00, 0x00, 0x00], .psubusw [] 1 (.mem (.sibNoBase 1 5 1))),
    ([0x0F, 0xDB, 0xCA], .pand [] 1 (.reg 2)),
    ([0x0F, 0xDC, 0x04, 0x83], .paddusb [] 0 (.mem (.sib 2 0 3 .none))),
    ([0x0F, 0xDD, 0x45, 0xF8], .paddusw [] 0 (.mem (.based32 5 (.d8 0xF8)))),
    ([0x0F, 0xDF, 0x3D, 0x00, 0x20, 0x00, 0x00], .pandn [] 7 (.mem (.abs32 0x2000))),
    ([0x0F, 0xE1, 0x1E], .psraw [] 3 (.mem (.based32 6 .none))),
    ([0x0F, 0xE2, 0x94, 0x24, 0x78, 0x56, 0x34, 0x12], .psrad [] 2 (.mem (.sib 0 4 4 (.d32 0x12345678)))),
    ([0x0F, 0xE5, 0x0C, 0x6D, 0x01, 0x00, 0x00, 0x00], .pmulhw [] 1 (.mem (.sibNoBase 1 5 1))),
    ([0x0F, 0xE8, 0xCA], .psubsb [] 1 (.reg 2)),
    ([0x0F, 0xE9, 0x04, 0x83], .psubsw [] 0 (.mem (.sib 2 0 3 .none))),
    ([0x0F, 0xEB, 0x45, 0xF8], .por [] 0 (.mem (.based32 5 (.d8 0xF8)))),
    ([0x0F, 0xEC, 0x3D, 0x00, 0x20, 0x00, 0x00], .paddsb [] 7 (.mem (.abs32 0x2000))),
    ([0x0F, 0xED, 0x1E], .paddsw [] 3 (.mem (.based32 6 .none))),
    ([0x0F, 0xEF, 0x94, 0x24, 0x78, 0x56, 0x34, 0x12], .pxor [] 2 (.mem (.sib 0 4 4 (.d32 0x12345678)))),
    ([0x0F, 0xF1, 0x0C, 0x6D, 0x01, 0x00, 0x00, 0x00], .psllw [] 1 (.mem (.sibNoBase 1 5 1)))] := by decide

theorem test_decode_mmx_f0 : decodesTo [
    ([0x0F, 0xF2, 0xCA], .pslld [] 1 (.reg 2)),
    ([0x0F, 0xF3, 0x04, 0x83], .psllq [] 0 (.mem (.sib 2 0 3 .none))),
    ([0x0F, 0xF5, 0x45, 0xF8], .pmaddwd [] 0 (.mem (.based32 5 (.d8 0xF8)))),
    ([0x0F, 0xF8, 0x3D, 0x00, 0x20, 0x00, 0x00], .psubb [] 7 (.mem (.abs32 0x2000))),
    ([0x0F, 0xF9, 0x1E], .psubw [] 3 (.mem (.based32 6 .none))),
    ([0x0F, 0xFA, 0x94, 0x24, 0x78, 0x56, 0x34, 0x12], .psubd [] 2 (.mem (.sib 0 4 4 (.d32 0x12345678)))),
    ([0x0F, 0xFC, 0x0C, 0x6D, 0x01, 0x00, 0x00, 0x00], .paddb [] 1 (.mem (.sibNoBase 1 5 1))),
    ([0x0F, 0xFD, 0xCA], .paddw [] 1 (.reg 2)),
    ([0x0F, 0xFE, 0x04, 0x83], .paddd [] 0 (.mem (.sib 2 0 3 .none)))] := by decide

theorem test_decode_fpu : decodesTo [
    ([0xDA, 0xC0], .fcmovb [] 0),
    ([0xDA, 0xC9], .fcmove [] 1),
    ([0xDA, 0xD2], .fcmovbe [] 2),
    ([0xDA, 0xDB], .fcmovu [] 3),
    ([0xDB, 0xC4], .fcmovnb [] 4),
    ([0xDB, 0xCD], .fcmovne [] 5),
    ([0xDB, 0xD6], .fcmovnbe [] 6),
    ([0xDB, 0xDF], .fcmovnu [] 7),
    ([0xDB, 0xE8], .fucomi [] 0),
    ([0xDB, 0xF1], .fcomi [] 1),
    ([0xDF, 0xEA], .fucomip [] 2),
    ([0xDF, 0xF3], .fcomip [] 3)] := by decide

/-- Table B9 of spec 95_test_vectors: segment override, 67h, repeat bytes, the ignored 66h, the 16-bit default. -/
theorem test_decode_before_opcode :
    decode true [0x2E, 0x0F, 0x6F, 0x06] = .instr (.movqLoad [.seg .cs] 0 (.mem (.based32 6 .none))) ∧
    decode true [0x67, 0x0F, 0x6F, 0x04] = .instr (.movqLoad [.addrSize] 0 (.mem (.based16 4 .none))) ∧
    decode true [0x67, 0x0F, 0x6F, 0xC1] = .instr (.movqLoad [.addrSize] 0 (.reg 1)) ∧
    decode true [0xF3, 0x0F, 0x6F, 0xCA] = .instr (.movqLoad [.rep] 1 (.reg 2)) ∧
    decode true [0x66, 0x0F, 0x6E, 0xC0] = .instr (.movdLoad [.opSize] 0 (.reg 0)) ∧
    decode false [0x0F, 0xEF, 0x06, 0x00, 0x20] = .instr (.pxor [] 0 (.mem (.abs16 0x2000))) ∧
    decode false [0x0F, 0xEF, 0x42, 0xFE] = .instr (.pxor [] 0 (.mem (.based16 2 (.d8 0xFE)))) := by decide

/-- Table B9: what stands for nothing is refused by name, what is the base machine's is told apart. -/
theorem test_decode_refused :
    decode true [0x0F, 0xD4, 0xC1] = .invalid ∧ decode true [0x0F, 0x72, 0xC8, 0x01] = .invalid ∧
    decode true [0x0F, 0x73, 0xE0, 0x01] = .invalid ∧ decode true [0x0F, 0x71, 0x10, 0x04] = .invalid ∧
    decode true [0x0F, 0x24, 0xC0] = .invalid ∧ decode true [0x0F, 0xC7, 0x06] = .invalid ∧
    decode true [0xDA, 0xE9] = .outside 0xDA ∧ decode true [0x90] = .outside 0x90 ∧
    decode true [0x0F] = .needMore ∧ decode true [0x66, 0xF0] = .needMore ∧ decode true [] = .needMore := by decide

/-- The base instructions some rule describes (log 28). -/
theorem test_decode_base :
    decode true [0xFA] = .base [] .cli 1 ∧ decode true [0xFB] = .base [] .sti 1 ∧ decode true [0xF4] = .base [] .hlt 1 ∧
    decode true [0xCD, 0x21] = .base [] (.int 0x21) 2 ∧ decode true [0x0F, 0x22, 0xD8] = .base [] (.movToCr3 0) 3 ∧
    decode true [0x0F, 0x22, 0xE1] = .base [] (.movToCr4 1) 3 ∧
    decode true [0x0F, 0x20, 0xE2] = .base [] (.movFromCr4 2) 3 ∧
    decode true [0x0F, 0x23, 0xFB] = .base [] (.movToDr 7 3) 3 ∧
    decode true [0x0F, 0x21, 0xF4] = .base [] (.movFromDr 6 4) 3 ∧
    decode true [0x0F, 0x22, 0xC1] = .base [] (.movToCr0 1) 3 ∧
    decode true [0x0F, 0x20, 0xD2] = .base [] (.movFromCr2 2) 3 ∧
    decode true [0x0F, 0x20, 0xDB] = .base [] (.movFromCr3 3) 3 ∧
    decode true [0x9C] = .base [] (.flagsOp 0x9C) 1 ∧ decode true [0x9D] = .base [] (.flagsOp 0x9D) 1 ∧
    decode true [0xCF] = .base [] (.flagsOp 0xCF) 1 := by decide

/-- Words numbered as spec/opcode_table.json numbers them. -/
theorem test_decodeTableWord :
    decodeTableWord 16 0x770F = some (.emms []) ∧ decodeTableWord 24 0xCAFC0F = some (.paddb [] 1 (.reg 2)) ∧
    decodeTableWord 16 0xFC0F = some (.paddb [] 0 (.mem (.based16 0 .none))) ∧
    decodeTableWord 24 0xC10FDA = none := by decide

/-- From reset the step runs exactly the instruction placed where it fetches. -/
theorem test_step_runs_placed_word :
    (stateOf (step (State.reset.withFetchWord 16 0x770F))).map (fun s => (s.eip, s.ftw)) = some (0xFFF2, 0xFFFF) := by
  decide

/-! ## MMX -/

theorem test_paddb : onPairs .paddb [
      (0x7FFF80000001FFFF, 0x00017FFFFFFF0001, 0x7F00FFFFFF00FF00),
      (0x80FF7F0001FE8081, 0x8001017FFF028180, 0x0000807F00000101)] := by decide

theorem test_paddw : onPairs .paddw [
      (0x7FFF80000001FFFF, 0x00017FFFFFFF0001, 0x8000FFFF00000000),
      (0x80FF7F0001FE8081, 0x8001017FFF028180, 0x0100807F01000201)] := by decide

theorem test_paddd : onPairs .paddd [
      (0x7FFF80000001FFFF, 0x00017FFFFFFF0001, 0x8000FFFF00010000),
      (0x80FF7F0001FE8081, 0x8001017FFF028180, 0x0100807F01010201)] := by decide

theorem test_paddsb : onPairs .paddsb [
      (0x7FFF80000001FFFF, 0x00017FFFFFFF0001, 0x7F00FFFFFF00FF00),
      (0x80FF7F0001FE8081, 0x8001017FFF028180, 0x80007F7F00008080)] := by decide

theorem test_paddsw : onPairs .paddsw [
      (0x7FFF80000001FFFF, 0x00017FFFFFFF0001, 0x7FFFFFFF00000000),
      (0x80FF7F0001FE8081, 0x8001017FFF028180, 0x80007FFF01008000)] := by decide

theorem test_paddusb : onPairs .paddusb [
      (0x7FFF80000001FFFF, 0x00017FFFFFFF0001, 0x7FFFFFFFFFFFFFFF),
      (0x80FF7F0001FE8081, 0x8001017FFF028180, 0xFFFF807FFFFFFFFF)] := by decide

theorem test_paddusw : onPairs .paddusw [
      (0x7FFF80000001FFFF, 0x00017FFFFFFF0001, 0x8000FFFFFFFFFFFF),
      (0x80FF7F0001FE8081, 0x8001017FFF028180, 0xFFFF807FFFFFFFFF)] := by decide

theorem test_psubb : onPairs .psubb [
      (0x7FFF80000001FFFF, 0x00017FFFFFFF0001, 0x7FFE01010102FFFE),
      (0x80FF7F0001FE8081, 0x8001017FFF028180, 0x00FE7E8102FCFF01)] := by decide

theorem test_psubw : onPairs .psubw [
      (0x7FFF80000001FFFF, 0x00017FFFFFFF0001, 0x7FFE00010002FFFE),
      (0x80FF7F0001FE8081, 0x8001017FFF028180, 0x00FE7D8102FCFF01)] := by decide

theorem test_psubd : onPairs .psubd [
      (0x7FFF80000001FFFF, 0x00017FFFFFFF0001, 0x7FFE00010002FFFE),
      (0x80FF7F0001FE8081, 0x8001017FFF028180, 0x00FE7D8102FBFF01)] := by decide

theorem test_psubsb : onPairs .psubsb [
      (0x7FFF80000001FFFF, 0x00017FFFFFFF0001, 0x7FFE80010102FFFE),
      (0x80FF7F0001FE8081, 0x8001017FFF028180, 0x00FE7E8102FCFF01)] := by decide

theorem test_psubsw : onPairs .psubsw [
      (0x7FFF80000001FFFF, 0x00017FFFFFFF0001, 0x7FFE80000002FFFE),
      (0x80FF7F0001FE8081, 0x8001017FFF028180, 0x00FE7D8102FCFF01)] := by decide

theorem test_psubusb : onPairs .psubusb [
      (0x7FFF80000001FFFF, 0x00017FFFFFFF0001, 0x7FFE01000000FFFE),
      (0x80FF7F0001FE8081, 0x8001017FFF028180, 0x00FE7E0000FC0001)] := by decide

theorem test_psubusw : onPairs .psubusw [
      (0x7FFF80000001FFFF, 0x00017FFFFFFF0001, 0x7FFE00010000FFFE),
      (0x80FF7F0001FE8081, 0x8001017FFF028180, 0x00FE7D8100000000)] := by decide

theorem test_pmulhw : onPairs .pmulhw [
      (0x7FFF80000001FFFF, 0x00017FFFFFFF0001, 0x0000C000FFFFFFFF),
      (0x8000800080008000, 0x8000800080008000, 0x4000400040004000),
      (0x7FFF7FFF00020003, 0x7FFF7FFFFFFF0004, 0x3FFF3FFFFFFF0000)] := by decide

theorem test_pmullw : onPairs .pmullw [
      (0x7FFF80000001FFFF, 0x00017FFFFFFF0001, 0x7FFF8000FFFFFFFF),
      (0x8000800080008000, 0x8000800080008000, 0x0000000000000000),
      (0x7FFF7FFF00020003, 0x7FFF7FFFFFFF0004, 0x00010001FFFE000C)] := by decide

theorem test_pmaddwd : onPairs .pmaddwd [
      (0x7FFF80000001FFFF, 0x00017FFFFFFF0001, 0xC000FFFFFFFFFFFE),
      (0x8000800080008000, 0x8000800080008000, 0x8000000080000000),
      (0x7FFF7FFF00020003, 0x7FFF7FFFFFFF0004, 0x7FFE00020000000A)] := by decide

theorem test_pcmpeqb : onPairs .pcmpeqb [
      (0x7FFF80000001FFFF, 0x00017FFFFFFF0001, 0x0000000000000000),
      (0x80007FFF00FF0001, 0x7FFF7FFF00FF8001, 0x0000FFFFFFFF00FF)] := by decide

theorem test_pcmpeqw : onPairs .pcmpeqw [
      (0x7FFF80000001FFFF, 0x00017FFFFFFF0001, 0x0000000000000000),
      (0x80007FFF00FF0001, 0x7FFF7FFF00FF8001, 0x0000FFFFFFFF0000)] := by decide

theorem test_pcmpeqd : onPairs .pcmpeqd [
      (0x7FFF80000001FFFF, 0x00017FFFFFFF0001, 0x0000000000000000),
      (0x80007FFF00FF0001, 0x7FFF7FFF00FF8001, 0x0000000000000000),
      (0x0123456789ABCDEF, 0x0123456700000000, 0xFFFFFFFF00000000)] := by decide

theorem test_pcmpgtb : onPairs .pcmpgtb [
      (0x7FFF80000001FFFF, 0x00017FFFFFFF0001, 0xFF0000FFFFFF0000),
      (0x80007FFF00FF0001, 0x7FFF7FFF00FF8001, 0x00FF00000000FF00)] := by decide

theorem test_pcmpgtw : onPairs .pcmpgtw [
      (0x7FFF80000001FFFF, 0x00017FFFFFFF0001, 0xFFFF0000FFFF0000),
      (0x80007FFF00FF0001, 0x7FFF7FFF00FF8001, 0x000000000000FFFF)] := by decide

theorem test_pcmpgtd : onPairs .pcmpgtd [
      (0x7FFF80000001FFFF, 0x00017FFFFFFF0001, 0xFFFFFFFFFFFFFFFF),
      (0x80007FFF00FF0001, 0x7FFF7FFF00FF8001, 0x0000000000000000)] := by decide

theorem test_packsswb : onPairs .packsswb [
      (0x7FFF8000007FFF80, 0x0080FF7F00FF0100, 0x7F807F7F7F807F80),
      (0x0000800000007FFF, 0xFFFF7FFF00008000, 0xFF7F00800080007F)] := by decide

theorem test_packssdw : onPairs .packssdw [
      (0x7FFF8000007FFF80, 0x0080FF7F00FF0100, 0x7FFF7FFF7FFF7FFF),
      (0x0000800000007FFF, 0xFFFF7FFF00008000, 0x80007FFF7FFF7FFF)] := by decide

theorem test_packuswb : onPairs .packuswb [
      (0x7FFF8000007FFF80, 0x0080FF7F00FF0100, 0x8000FFFFFF007F00),
      (0x0000800000007FFF, 0xFFFF7FFF00008000, 0x00FF0000000000FF)] := by decide

theorem test_punpckhbw : onPairs .punpckhbw [
      (0x0706050403020100, 0x1716151413121110, 0x1707160615051404)] := by decide

theorem test_punpckhwd : onPairs .punpckhwd [
      (0x0706050403020100, 0x1716151413121110, 0x1716070615140504)] := by decide

theorem test_punpckhdq : onPairs .punpckhdq [
      (0x0706050403020100, 0x1716151413121110, 0x1716151407060504)] := by decide

theorem test_punpcklbw : onPairs .punpcklbw [
      (0x0706050403020100, 0x1716151413121110, 0x1303120211011000)] := by decide

theorem test_punpcklwd : onPairs .punpcklwd [
      (0x0706050403020100, 0x1716151413121110, 0x1312030211100100)] := by decide

theorem test_punpckldq : onPairs .punpckldq [
      (0x0706050403020100, 0x1716151413121110, 0x1312111003020100)] := by decide

theorem test_pand : onPairs .pand [
      (0xFF00FF00F0F0AAAA, 0x0FF00FF0FF0055AA, 0x0F000F00F00000AA)] := by decide

theorem test_pandn : onPairs .pandn [
      (0xFF00FF00F0F0AAAA, 0x0FF00FF0FF0055AA, 0x00F000F00F005500)] := by decide

theorem test_por : onPairs .por [
      (0xFF00FF00F0F0AAAA, 0x0FF00FF0FF0055AA, 0xFFF0FFF0FFF0FFAA)] := by decide

theorem test_pxor : onPairs .pxor [
      (0xFF00FF00F0F0AAAA, 0x0FF00FF0FF0055AA, 0xF0F0F0F00FF0FF00)] := by decide

theorem test_psllw : onCounts .psllw [
      (0x0, 0x8001FFFF7FFF0180), (0x1, 0x0002FFFEFFFE0300), (0xF, 0x8000800080000000),
      (0x10, 0x0000000000000000), (0xFF, 0x0000000000000000), (0x100000000, 0x0000000000000000)] := by decide

theorem test_psllw_imm : onImmediates .psllwImm [
      (0x0, 0x8001FFFF7FFF0180), (0x1, 0x0002FFFEFFFE0300), (0xF, 0x8000800080000000),
      (0x10, 0x0000000000000000), (0xFF, 0x0000000000000000)] := by decide

theorem test_pslld : onCounts .pslld [
      (0x0, 0x8001FFFF7FFF0180), (0x1, 0x0003FFFEFFFE0300), (0x1F, 0x8000000000000000),
      (0x20, 0x0000000000000000), (0xFF, 0x0000000000000000), (0x100000000, 0x0000000000000000)] := by decide

theorem test_pslld_imm : onImmediates .pslldImm [
      (0x0, 0x8001FFFF7FFF0180), (0x1, 0x0003FFFEFFFE0300), (0x1F, 0x8000000000000000),
      (0x20, 0x0000000000000000), (0xFF, 0x0000000000000000)] := by decide

theorem test_psllq : onCounts .psllq [
      (0x0, 0x8001FFFF7FFF0180), (0x1, 0x0003FFFEFFFE0300), (0x3F, 0x0000000000000000),
      (0x40, 0x0000000000000000), (0xFF, 0x0000000000000000), (0x100000000, 0x0000000000000000)] := by decide

theorem test_psllq_imm : onImmediates .psllqImm [
      (0x0, 0x8001FFFF7FFF0180), (0x1, 0x0003FFFEFFFE0300), (0x3F, 0x0000000000000000),
      (0x40, 0x0000000000000000), (0xFF, 0x0000000000000000)] := by decide

theorem test_psrlw : onCounts .psrlw [
      (0x0, 0x8001FFFF7FFF0180), (0x1, 0x40007FFF3FFF00C0), (0xF, 0x0001000100000000),
      (0x10, 0x0000000000000000), (0xFF, 0x0000000000000000), (0x100000000, 0x0000000000000000)] := by decide

theorem test_psrlw_imm : onImmediates .psrlwImm [
      (0x0, 0x8001FFFF7FFF0180), (0x1, 0x40007FFF3FFF00C0), (0xF, 0x0001000100000000),
      (0x10, 0x0000000000000000), (0xFF, 0x0000000000000000)] := by decide

theorem test_psrld : onCounts .psrld [
      (0x0, 0x8001FFFF7FFF0180), (0x1, 0x4000FFFF3FFF80C0), (0x1F, 0x0000000100000000),
      (0x20, 0x0000000000000000), (0xFF, 0x0000000000000000), (0x100000000, 0x0000000000000000)] := by decide

theorem test_psrld_imm : onImmediates .psrldImm [
      (0x0, 0x8001FFFF7FFF0180), (0x1, 0x4000FFFF3FFF80C0), (0x1F, 0x0000000100000000),
      (0x20, 0x0000000000000000), (0xFF, 0x0000000000000000)] := by decide

theorem test_psrlq : onCounts .psrlq [
      (0x0, 0x8001FFFF7FFF0180), (0x1, 0x4000FFFFBFFF80C0), (0x3F, 0x0000000000000001),
      (0x40, 0x0000000000000000), (0xFF, 0x0000000000000000), (0x100000000, 0x0000000000000000)] := by decide

theorem test_psrlq_imm : onImmediates .psrlqImm [
      (0x0, 0x8001FFFF7FFF0180), (0x1, 0x4000FFFFBFFF80C0), (0x3F, 0x0000000000000001),
      (0x40, 0x0000000000000000), (0xFF, 0x0000000000000000)] := by decide

theorem test_psraw : onCounts .psraw [
      (0x0, 0x8001FFFF7FFF0180), (0x1, 0xC000FFFF3FFF00C0), (0xF, 0xFFFFFFFF00000000),
      (0x10, 0xFFFFFFFF00000000), (0xFF, 0xFFFFFFFF00000000), (0x100000000, 0xFFFFFFFF00000000)] := by decide

theorem test_psraw_imm : onImmediates .psrawImm [
      (0x0, 0x8001FFFF7FFF0180), (0x1, 0xC000FFFF3FFF00C0), (0xF, 0xFFFFFFFF00000000),
      (0x10, 0xFFFFFFFF00000000), (0xFF, 0xFFFFFFFF00000000)] := by decide

theorem test_psrad : onCounts .psrad [
      (0x0, 0x8001FFFF7FFF0180), (0x1, 0xC000FFFF3FFF80C0), (0x1F, 0xFFFFFFFF00000000),
      (0x20, 0xFFFFFFFF00000000), (0xFF, 0xFFFFFFFF00000000), (0x100000000, 0xFFFFFFFF00000000)] := by decide

theorem test_psrad_imm : onImmediates .psradImm [
      (0x0, 0x8001FFFF7FFF0180), (0x1, 0xC000FFFF3FFF80C0), (0x1F, 0xFFFFFFFF00000000),
      (0x20, 0xFFFFFFFF00000000), (0xFF, 0xFFFFFFFF00000000)] := by decide

/-- 45 R331 to R334, table B6: transfers. -/
theorem test_movd_load :
    mmAfter 0 (exec (.movdLoad [] 0 (.reg 0)) (((pair 0 0).setR32 0 0x89ABCDEF).setMm 0 0xFFFFFFFFFFFFFFFF))
      = some 0x89ABCDEF := by decide

/-- `[ebp+8]` goes through SS. -/
theorem test_movd_load_memory :
    mmAfter 1 (exec (.movdLoad [] 1 (.mem (.based32 5 (.d8 8))))
      (withBytes ((protAt 0).setR32 5 0x1000) 0x1008 [1, 2, 3, 4])) = some 0x04030201 := by decide

theorem test_movd_store_register :
    (stateOf (exec (.movdStore [] 1 (.reg 3)) (pair 0 0xFEDCBA9876543210))).map
      (fun s => (s.r32 3, s.mm 1, s.ftw, s.tos)) = some (0x76543210, 0xFEDCBA9876543210, 0, 0) := by decide

theorem test_movd_store_memory :
    (stateOf (exec (.movdStore [] 1 (.mem (.based32 3 .none))) (((protAt 0).setMm 1 0xFEDCBA9876543210).setR32 3 0x2000))).map
      (fun s => s.mem) = some [(0x2000, 0x10), (0x2001, 0x32), (0x2002, 0x54), (0x2003, 0x76)] := by decide

theorem test_movq_load :
    mmAfter 0 (exec (.movqLoad [] 0 (.mem (.sib 2 0 3 .none)))
      (withBytes (((protAt 0).setR32 3 0x3000).setR32 0 2) 0x3008 [0xEF, 0xCD, 0xAB, 0x89, 0x67, 0x45, 0x23, 0x01]))
      = some 0x0123456789ABCDEF := by decide

/-- Unaligned: `[edi]` at 4001h. -/
theorem test_movq_store :
    (stateOf (exec (.movqStore [] 3 (.mem (.based32 7 .none))) (((protAt 0).setMm 3 0x0123456789ABCDEF).setR32 7 0x4001))).map
      (fun s => s.mem) = some [(0x4001, 0xEF), (0x4002, 0xCD), (0x4003, 0xAB), (0x4004, 0x89), (0x4005, 0x67),
        (0x4006, 0x45), (0x4007, 0x23), (0x4008, 0x01)] := by decide

/-- 45 R330, table B6: the data registers stay, every tag empty, TOS 000. -/
theorem test_emms :
    (stateOf (exec (.emms []) { pair 1 0 with ftw := 0, fsw := 0x2800 })).map (fun s => (s.ftw, s.fsw, s.mm 0, s.eip))
      = some (0xFFFF, 0, 1, 0xFFF2) := by decide

/-- 10_state R27 to R31: what a completed MMX instruction does to the FPU registers. -/
theorem test_mmx_fpu_side_effects :
    (stateOf (exec (.paddb [] 0 (.reg 1)) { pair 1 2 with fsw := 0x1000, ftw := 0xFFFF })).map
      (fun s => (s.tos, s.ftw, s.fpr[0], s.fpr[1])) = some (0, 0, 0xFFFF0000000000000003, 0xFFFF0000000000000002) := by
  decide

/-- Table B11: EM before TS before a pending FPU exception, LOCK first. -/
theorem test_mmx_checks :
    let at1000 : State := { pair 1 2 with eip := 0x1000 }
    let run := fun p (s : State) => raisedBy (exec (.paddb p 0 (.reg 1)) s)
    run [] at1000 = none ∧
    run [] { at1000 with cr0 := 0x8 } = some ⟨7, none, 0x1000⟩ ∧
    run [] { at1000 with cr0 := 0xC } = some ⟨6, none, 0x1000⟩ ∧
    run [] { at1000 with fsw := 0x80 } = some ⟨16, none, 0x1000⟩ ∧
    run [] { at1000 with fsw := 0x80, cr0 := 0x8 } = some ⟨7, none, 0x1000⟩ ∧
    run [.lock] { at1000 with cr0 := 0x8 } = some ⟨6, none, 0x1000⟩ := by decide

/-! ## P5 and P6 instructions -/

/-- `[esi]` holds 1122334455667788h and the registers hold what table B7 says. -/
def exchangeState (edx eax : Dword) : State :=
  withBytes ((((((protAt 0).setR32 2 edx).setR32 0 eax).setR32 1 0xAABBCCDD).setR32 3 0xEEFF0011).setR32 6 0x500)
    0x500 [0x88, 0x77, 0x66, 0x55, 0x44, 0x33, 0x22, 0x11]

/-- 46 R350: equal. -/
theorem test_cmpxchg8b_equal :
    (stateOf (exec (.cmpxchg8b [] (.mem (.based32 6 .none))) (exchangeState 0x11223344 0x55667788))).map
      (fun s => (s.flag bitZF, s.edxEax, readBytes s.mem (span 0x500 8)))
      = some (true, 0x1122334455667788, [0x11, 0x00, 0xFF, 0xEE, 0xDD, 0xCC, 0xBB, 0xAA]) := by decide

/-- 46 R350: one bit differs. -/
theorem test_cmpxchg8b_unequal :
    (stateOf (exec (.cmpxchg8b [.lock] (.mem (.based32 6 .none))) (exchangeState 0x11223344 0x55667789))).map
      (fun s => (s.flag bitZF, s.edxEax, readBytes s.mem (span 0x500 8)))
      = some (false, 0x1122334455667788, [0x88, 0x77, 0x66, 0x55, 0x44, 0x33, 0x22, 0x11]) := by decide

/-- 46 R352, R353, table B7. -/
theorem test_cpuid :
    (stateOf (exec (.cpuid []) State.reset)).map (fun s => (s.r32 0, s.r32 3, s.r32 2, s.r32 1))
      = some (2, 0x756E6547, 0x49656E69, 0x6C65746E) ∧
    (stateOf (exec (.cpuid []) { State.reset with cfg := { Config.default with family := .p5 } })).map (fun s => s.r32 0)
      = some 1 ∧
    (stateOf (exec (.cpuid []) (State.reset.setR32 0 1))).map (fun s => s.r32 2) = some 0x0080A1FF := by decide

/-- 46 R358. -/
theorem test_rdtsc :
    (stateOf (exec (.rdtsc []) { protAt 0 with tsc := 0x1234567890, cr4 := 4 })).map (fun s => (s.r32 2, s.r32 0))
      = some (0x12, 0x34567890) := by decide

theorem test_rdtsc_denied :
    (takeException .gp { protAt 3 with cr4 := 4 } = exec (.rdtsc []) { protAt 3 with cr4 := 4 }) := by rfl

/-- 46 R360. -/
theorem test_rdmsr :
    (stateOf (exec (.rdmsr []) { State.reset.setR32 1 0x10 with tsc := 0x1122334455667788 })).map (fun s => s.edxEax)
      = some 0x1122334455667788 ∧
    raisedBy (exec (.rdmsr []) (State.reset.setR32 1 0x14)) = some ⟨13, some 0, 0xFFF0⟩ := by decide

/-- 46 R362, R363. -/
theorem test_wrmsr :
    (stateOf (exec (.wrmsr []) ((State.reset.setR32 1 0x11).setEdxEax 0xD6))).map (fun s => s.cesr) = some 0xD6 ∧
    raisedBy (exec (.wrmsr []) ((State.reset.setR32 1 0x11).setEdxEax 0x400)) = some ⟨13, some 0, 0xFFF0⟩ ∧
    (stateOf (exec (.wrmsr []) ((State.reset.setR32 1 0x12).setEdxEax 0x1FFFFFFFFFF))).map (fun s => s.ctr0)
      = some 0xFFFFFFFFFF := by decide

/-- 47 R410. -/
theorem test_rdpmc :
    (stateOf (exec (.rdpmc []) { protAt 3 with gpr := #v[0, 1, 7, 0, 0, 0, 0, 0], cr4 := 0x100, ctr1 := 0x3E8 })).map
      (fun s => s.edxEax) = some 0x3E8 ∧
    raisedBy (exec (.rdpmc []) (State.reset.setR32 1 2)) = some ⟨13, some 0, 0xFFF0⟩ := by decide

/-- 47 R412. -/
theorem test_ud2 : raisedBy (exec (.ud2 []) State.reset) = some ⟨6, none, 0xFFF0⟩ := by decide

/-- EAX = 11111111h, EBX = 22222222h and these flags. -/
def cmovState (flags : Dword) : State :=
  { ((protAt 0).setR32 0 0x11111111).setR32 3 0x22222222 with eflags := flags ||| 2 }

/-- CMOVcc eax, ebx moves with every flag word of the first list and with none of the second (table B8). -/
abbrev cmovMoves (f : List Pfx → RegNum → Rm → Instr) (yes no : List Dword) : Prop :=
  let eax := fun v => (stateOf (exec (f [] 0 (.reg 3)) (cmovState v))).map fun s => s.r32 0
  yes.map eax = yes.map (fun _ => some 0x22222222) ∧ no.map eax = no.map fun _ => some 0x11111111

theorem test_cmovo : cmovMoves .cmovo [0x800] [0, 0x80] := by decide
theorem test_cmovno : cmovMoves .cmovno [0, 0x80] [0x800] := by decide
theorem test_cmovb : cmovMoves .cmovb [1] [0, 0x40] := by decide
theorem test_cmovae : cmovMoves .cmovae [0, 0x40] [1] := by decide
theorem test_cmove : cmovMoves .cmove [0x40] [0, 1] := by decide
theorem test_cmovne : cmovMoves .cmovne [0, 1] [0x40] := by decide
theorem test_cmovbe : cmovMoves .cmovbe [1, 0x40, 0x41] [0] := by decide
theorem test_cmova : cmovMoves .cmova [0] [1, 0x40, 0x41] := by decide
theorem test_cmovs : cmovMoves .cmovs [0x80] [0, 0x800] := by decide
theorem test_cmovns : cmovMoves .cmovns [0, 0x800] [0x80] := by decide
theorem test_cmovp : cmovMoves .cmovp [4] [0, 1] := by decide
theorem test_cmovnp : cmovMoves .cmovnp [0, 1] [4] := by decide
theorem test_cmovl : cmovMoves .cmovl [0x80, 0x800] [0, 0x880] := by decide
theorem test_cmovge : cmovMoves .cmovge [0, 0x880] [0x80, 0x800] := by decide
theorem test_cmovle : cmovMoves .cmovle [0x40, 0x80, 0x800] [0, 0x880] := by decide
theorem test_cmovg : cmovMoves .cmovg [0, 0x880] [0x40, 0x80, 0x800] := by decide

/-- `66 0F 44 C3` moves 16 bits (30_encoding R159). -/
theorem test_cmove_16 :
    (stateOf (exec (.cmove [.opSize] 0 (.reg 3)) (cmovState 0x40))).map (fun s => s.r32 0) = some 0x11112222 := by decide

/-- 92_eei D7: the operand is checked although nothing is moved. -/
theorem test_cmovg_checks_operand :
    raisedBy (exec (.cmovg [] 1 (.mem (.abs16 0xFFFF))) { State.reset with eflags := 0x42 }) = some ⟨13, some 0, 0xFFF0⟩
    := by decide

/-! ## FPU instructions -/

def one : FpuReg := 0x3FFF8000000000000000
def two : FpuReg := 0x40008000000000000000
def qnan : FpuReg := 0x7FFFC000000000000000
def snan : FpuReg := 0x7FFFA000000000000000

/-- ST(0), ST(1) at TOS 0, no empty register, these flags, #IS and #IA masked. -/
def fpuState (a b : FpuReg) (flags : Dword) : State :=
  { State.reset with fpr := #v[a, b, 0, 0, 0, 0, 0, 0], ftw := 0, fcw := 0x41, eflags := flags ||| 2 }

/-- FCMOVcc st, st(1) moves with every flag word of the first list and with none of the second (47 R398). -/
abbrev fcmovMoves (f : List Pfx → RegNum → Instr) (yes no : List Dword) : Prop :=
  let st := fun v => (stateOf (exec (f [] 1) (fpuState one two v))).map fun s => (s.fpr[0], s.fpr[1])
  yes.map st = yes.map (fun _ => some (two, two)) ∧ no.map st = no.map fun _ => some (one, two)

theorem test_fcmovb : fcmovMoves .fcmovb [1] [0, 0x44] := by decide
theorem test_fcmove : fcmovMoves .fcmove [0x40] [0, 5] := by decide
theorem test_fcmovbe : fcmovMoves .fcmovbe [1, 0x40] [0, 4] := by decide
theorem test_fcmovu : fcmovMoves .fcmovu [4] [0, 0x41] := by decide
theorem test_fcmovnb : fcmovMoves .fcmovnb [0, 0x44] [1] := by decide
theorem test_fcmovne : fcmovMoves .fcmovne [0, 5] [0x40] := by decide
theorem test_fcmovnbe : fcmovMoves .fcmovnbe [0, 4] [1, 0x40, 0x41] := by decide
theorem test_fcmovnu : fcmovMoves .fcmovnu [0, 0x41] [4] := by decide

/-- Rows `(ST(0), ST(1), flags after)` of a comparison, the flags before all set. -/
abbrev compares (f : List Pfx → RegNum → Instr) (rows : List (FpuReg × FpuReg × Dword)) : Prop :=
  rows.all fun r => (stateOf (exec (f [] 1) (fpuState r.1 r.2.1 0x8D7))).map (fun s => s.eflags) == some (0x892 ||| r.2.2)

theorem test_fcomi :
    compares .fcomi [(one, two, 1), (two, one, 0), (0, 0x80000000000000000000, 0x40), (qnan, one, 0x45),
      (0xFFFF0000000000000000, 0, 0x45), (0xBFFF8000000000000000, one, 1)] := by decide

/-- Unmasked #IA: the flags stay, the exception is pending (47 R402 step 5). -/
theorem test_fcomi_unmasked :
    (stateOf (exec (.fcomi [] 1) { fpuState qnan one 0x8D7 with fcw := 0x40 })).map (fun s => (s.eflags, s.fpuPending))
      = some (0x8D7, true) := by decide

theorem test_fucomi :
    compares .fucomi [(one, two, 1), (qnan, one, 0x45), (snan, one, 0x45)] ∧
    (stateOf (exec (.fucomi [] 1) { fpuState qnan one 0 with fcw := 0x40 })).map (fun s => (s.eflags, s.fpuPending))
      = some (0x47, false) := by decide

/-- The pop: TOS 3 to 4, register 3 empty. -/
theorem test_fcomip :
    (stateOf (exec (.fcomip [] 1) { State.reset with
      fpr := #v[0, 0, 0, one, two, 0, 0, 0], ftw := 0, fsw := 0x1800 })).map
      (fun s => (s.eflags, s.tos, s.tag 3, s.tag 4, s.st 0)) = some (3, 4, 3, 0, two) := by decide

/-- The pop from TOS 7. -/
theorem test_fucomip :
    (stateOf (exec (.fucomip [] 1) { State.reset with
      fpr := #v[two, 0, 0, 0, 0, 0, 0, one], ftw := 0, fsw := 0x3800 })).map
      (fun s => (s.eflags, s.tos, s.ftw)) = some (3, 0, 0xC000) := by decide

/-- A tag of 01 or 10 is not empty (log 38): no underflow with the tag word of reset. -/
theorem test_tags_not_empty :
    State.reset.stEmpty 0 = false ∧ State.stEmpty { State.reset with ftw := 0x5556 } 0 = false ∧
    State.stEmpty { State.reset with ftw := 0x5557 } 0 = true := by decide

/-! ## Memory, paging, exceptions -/

/-- Table B10: the last eight bytes of a 64-KB segment, and one byte beyond it through DS and SS. -/
theorem test_segment_limit :
    (stateOf (exec (.movqLoad [] 0 (.mem (.abs16 0xFFF8))) State.reset)).map (fun s => s.ftw) = some 0 ∧
    raisedBy (exec (.movqLoad [] 0 (.mem (.abs16 0xFFF9))) State.reset) = some ⟨13, some 0, 0xFFF0⟩ ∧
    raisedBy (exec (.movqLoad [.seg .ss] 0 (.mem (.abs16 0xFFF9))) State.reset) = some ⟨12, some 0, 0xFFF0⟩ := by decide

/-- 20_memory R88: the limit of real-address mode is FFFFh whatever the hidden part holds, in SMM it is 4 GB. -/
theorem test_limit_of_mode :
    let wide := { State.reset with segs := (protAt 0).segs }
    wide.segCheck .ds 0xFFF8 8 false = none ∧ wide.segCheck .ds 0xFFF9 8 false = some .gp ∧
    (State.segCheck { wide with cr0 := 0x60000011, eflags := 0x00020002 } .ss 0xFFF9 8 false) = some .ss ∧
    (protAt 0).segCheck .ds 0xFFF9 8 false = none ∧
    State.segCheck { State.reset with inSmm := true } .ds 0xFFFFFFF8 8 false = none ∧
    State.segCheck { State.reset with inSmm := true } .ds 0xFFFFFFF9 8 false = some .gp := by decide

/-- Physical memory and control registers of the walks of table B10. -/
def pagedState (cr4 cr3 : Dword) (cells : List (Nat × List Byte)) : State :=
  cells.foldl (fun s c => withBytes s c.1 c.2) { protAt 0 with cr0 := 0xE0000011, cr4 := cr4, cr3 := cr3 }

/-- W1: the 4-KB page of la 12345678h. -/
def w1 : State := pagedState 0 0x00100000 [(0x00100120, [0x07, 0x00, 0x20, 0x00]), (0x00200D14, [0x07, 0xC0, 0xAB, 0x00])]
/-- W4: the 4-MB page. -/
def w4 : State := pagedState 0x10 0x00100000 [(0x00100120, [0x87, 0x00, 0xC0, 0x00])]
/-- W6: a reserved bit of a 4-MB page. -/
def w6 : State := pagedState 0x10 0x00100000 [(0x00100120, [0x87, 0x10, 0xC0, 0x00])]
/-- W7: the extended 4-KB page of la C0345678h. -/
def w7 : State := pagedState 0x20 0x00100020 [(0x00100038, [0x01, 0x10, 0x20, 0, 0, 0, 0, 0]),
  (0x00201008, [0x07, 0x00, 0x30, 0, 1, 0, 0, 0]), (0x100300A28, [0x07, 0xC0, 0xAB, 0, 0xF, 0, 0, 0])]
/-- W8: the 2-MB page. -/
def w8 : State := pagedState 0x20 0x00100020 [(0x00100038, [0x01, 0x10, 0x20, 0, 0, 0, 0, 0]),
  (0x00201008, [0x87, 0x00, 0x40, 0, 2, 0, 0, 0])]

/-- The address a translation gives, and the bytes of an entry after it. -/
def translated (s : State) (la : Dword) (acc : Access) (a : Nat) : Option (Nat × List Byte) :=
  match s.translate la acc with
  | .ok pa t => some (pa, readBytes t.mem (span a 4))
  | .exn _ => none
  | .stop _ => none

/-- W1, W2, W4, W7, W8: the physical address, and A and D of the entry. -/
theorem test_walks :
    translated w1 0x12345678 ⟨false, false⟩ 0x00200D14 = some (0x00ABC678, [0x27, 0xC0, 0xAB, 0x00]) ∧
    translated w1 0x12345678 ⟨false, true⟩ 0x00200D14 = some (0x00ABC678, [0x67, 0xC0, 0xAB, 0x00]) ∧
    translated w1 0x12345678 ⟨false, true⟩ 0x00100120 = some (0x00ABC678, [0x27, 0x00, 0x20, 0x00]) ∧
    translated w4 0x12345678 ⟨false, true⟩ 0x00100120 = some (0x00F45678, [0xE7, 0x00, 0xC0, 0x00]) ∧
    translated w7 0xC0345678 ⟨false, false⟩ 0x00201008 = some (0xF00ABC678, [0x27, 0x00, 0x30, 0x00]) ∧
    translated w8 0xC0345678 ⟨false, false⟩ 0x00201008 = some (0x200545678, [0xA7, 0x00, 0x40, 0x00]) := by decide

/-- 20_memory R107, R119: the leaf entry, its D and its G; the G of a directory entry that points to a table is ignored. -/
theorem test_walk_leaf :
    let walked := fun (s : State) =>
      match s.walk 0x12345678 ⟨false, false⟩ with
      | .ok w _ => some (w.entry.leaf, w.entry.dirty, w.entry.global)
      | .exn _ => none
      | .stop _ => none
    walked (withBytes w1 0x00100121 [0x01]) = some (0x00200D14, false, false) ∧
    walked (withBytes w1 0x00200D14 [0x47, 0xC1]) = some (0x00200D14, true, true) ∧
    walked (withBytes w4 0x00100120 [0xC7, 0x01]) = some (0x00100120, true, true) := by decide

/-- A remembered walk of the page of W1, writable and not dirty yet. -/
def remembered : TlbEntry where
  page := 0x12345
  shift := 12
  frame := 0x00ABC000
  user := false
  writable := true
  global := false
  dirty := false
  leaf := 0x00200D14

/-- 20_memory R117, R118: the first write through a remembered walk sets D, which the walk then knows; a user access is
denied by the walk's own bits whatever the entry says now. -/
theorem test_remembered_walk :
    let s := { w1 with tlb := [remembered] }
    (match s.through remembered 0x12345678 ⟨false, true⟩ with
      | .ok pa t => pa == 0x00ABC678 && readByte t.mem 0x00200D14 == 0x47 && t.tlb == [{ remembered with dirty := true }]
      | .exn _ => false
      | .stop _ => false) = true ∧
    s.through remembered 0x12345678 ⟨true, false⟩ = .exn (.pf 5 0x12345678) := by decide

/-- W3 and W6: #PF with its address and code. -/
theorem test_page_faults :
    w1.translate 0x12346678 ⟨false, true⟩ = .exn (.pf 2 0x12346678) ∧
    w6.translate 0x12345678 ⟨true, false⟩ = .exn (.pf 0xD 0x12345678) := by
  constructor <;> rfl

/-- Table B11: virtual-8086 mode with VME. -/
def v86 (cr4 flags : Dword) : State :=
  { State.reset with cr0 := 0x60000011, cr4 := cr4, eflags := 0x00020002 ||| flags }

theorem test_virtual_interrupt_flag :
    (stateOf (execBase [] .cli 1 (v86 1 0x200))).map (fun s => s.eflags) = some 0x000A0202 ∧
    (stateOf (execBase [] .sti 1 (v86 1 0x00080000))).map (fun s => s.eflags) = some 0x00020002 ∧
    (stateOf (execBase [] .cli 1 (v86 1 0x3200))).map (fun s => s.eflags) = some 0x00023002 := by decide

/-- Table B11: INT 21h redirected to the 8086 program; TSS at 600h, its map at 668h, the table entry at 84h. -/
def int21 : State :=
  let seg := fun (sel : Word16) => Seg.resetData.loadReal sel
  let s := { v86 1 0x3200 with
    segs := ⟨seg 0, seg 0x1000, seg 0x2000, seg 0, seg 0, seg 0⟩
    eip := 0x0200
    tr := ⟨0x30, 0x600, 0x2067⟩
    gpr := #v[0, 0, 0, 0, 0x100, 0, 0, 0] }
  withBytes (withBytes s 0x84 [0x34, 0x12, 0x00, 0x0F]) 0x666 [0x88, 0x00]

theorem test_int_redirected :
    (stateOf (execBase [] (.int 0x21) 2 int21)).map (fun s => (s.eip, s.segs.cs.sel, s.segs.cs.base, s.r32 4, s.eflags))
      = some (0x1234, 0x0F00, 0xF000, 0xFA, 0x00023002) ∧
    (stateOf (execBase [] (.int 0x21) 2 int21)).map (fun s => readBytes s.mem (span 0x200FA 6))
      = some [0x02, 0x02, 0x00, 0x10, 0x02, 0x02] := by decide

/-- 10_state R38: DR4 is DR6 unless CR4.DE is set. -/
theorem test_debug_registers :
    (stateOf (execBase [] (.movFromDr 4 0) 3 State.reset)).map (fun s => s.r32 0) = some 0xFFFF0FF0 ∧
    raisedBy (execBase [] (.movFromDr 4 0) 3 { State.reset with cr4 := 8 }) = some ⟨6, none, 0xFFF0⟩ := by decide

/-- 60 R515: software sets and clears PE; an illegal pair of CR0 bits raises #GP(0). -/
theorem test_mov_cr0 :
    (stateOf (execBase [] (.movToCr0 0) 3 (State.reset.setR32 0 0x60000011))).map (fun s => s.mode) = some .prot ∧
    (stateOf (execBase [] (.movToCr0 0) 3 ((protAt 0).setR32 0 0x60000010))).map (fun s => s.mode) = some .real ∧
    raisedBy (execBase [] (.movToCr0 0) 3 (State.reset.setR32 0 0x80000010)) = some ⟨13, some 0, 0xFFF0⟩ := by decide

/-- 60 R592: an instruction that began with TF set is followed by the debug exception, vector 1 without a code. -/
theorem test_single_step :
    let s := State.reset.placeBytes [0x0F, 0x77]
    (stateOf (step { s with eflags := 0x102 })).map (fun t => (t.eip, t.stepTrap)) = some (0xFFF2, true) ∧
    (stateOf (step s)).map (fun t => t.stepTrap) = some false ∧
    (stateOf (step { s with eflags := 0x102, stepTrap := true })).map (fun t => (t.lastExn, t.stepTrap, t.flag bitTF))
      = some (some ⟨1, none, 0xFFF0⟩, false, false) := by decide

/-- 60 R591: an enabled counter with the reserved event 16 holds any value, also of clocks at the other CPL; CC = 100 keeps it. -/
theorem test_bad_event :
    ([1, 3, 5, 6, 7] : List (BitVec 3)).all (fun cc => counterAfter Config.default false cc 16 3 3 5 9 == 9) = true ∧
    counterAfter Config.default false 4 16 3 3 5 9 = 5 ∧ counterAfter Config.default false 5 0 3 3 5 9 = 5 := by decide

/-- 60 R568: in the halt state of SMM neither a pending single step nor NMI is taken; a maskable interrupt is. -/
theorem test_halt_in_smm :
    let s := { State.reset with inSmm := true, halted := true, stepTrap := true, nmiLatched := true }
    pendingEvent s = some (.next s) ∧
    pendingEvent { s with eflags := 0x202, intrLine := some 0x20 } =
      some (raise (.intr 0x20) 0xFFF0 { s with eflags := 0x202 }) ∧
    pendingEvent { s with halted := false } = some (raise .singleStep 0xFFF0 { s with halted := false }) :=
  ⟨rfl, rfl, rfl⟩

/-- 60 R532, R538: with VIP set the deferred request waits and the program goes on; with VIP clear it is a #GP. -/
theorem test_deferred_interrupt :
    let s := { v86 1 0x00080200 with intrLine := some 0x20 }
    pendingEvent { s with eflags := 0x001A0202 } = none ∧ pendingEvent s = some (raise .deferred s.eip s) ∧
    pendingEvent { s with eflags := 0x000A0002 } = none := ⟨rfl, rfl, rfl⟩

/-- 60 R534. -/
theorem test_flags_instructions :
    raisedBy (execBase [] (.flagsOp 0x9C) 1 { int21 with eflags := 0x00020202 }) = some ⟨13, some 0, 0x200⟩ ∧
    refusalOf (execBase [] (.flagsOp 0x9D) 1 int21) = some (.baseInstruction 0x9D) := by decide

/-- Virtual-8086 mode with VME, paging on, and no page at the stack. -/
def noStack : State := { v86 1 0 with cr0 := 0xE0000011, gpr := #v[0, 0, 0, 0, 0x100, 0, 0, 0] }

/-- The same with IOPL 3, for INT n, whose TSS is not mapped either. -/
def noPageInt : State := { int21 with cr0 := 0xE0000011 }

/-- 20_memory R117: a page fault inside a delivery leaves its address in CR2, also where the base machine makes the access. -/
theorem test_fault_in_delivery :
    (noStack.raised (.exn .ud) noStack.eip).deliver (.exn .ud) noStack.eip = .exn (.pf 2 0xFE) ∧
    (noStack.deliveryFailed (.pf 2 0xFE)).cr2 = 0xFE ∧ noStack.touch [(0xFE, true)] = .exn (.pf 2 0xFE) ∧
    (noStack.touchAll [(0xFE, true), (0x1000, false)]).cr2 = 0x1000 := ⟨rfl, rfl, rfl, rfl⟩

/-- 10_state R24: VIF and VIP stay in a delivery, but a task switch loads them. -/
theorem test_virtual_flags_stay :
    let s := { protAt 0 with eflags := 0x00100002 }
    let e : Entry := { (default : Entry) with eflags := 0x00080246 }
    s.entryFlags e = 0x00100046 + 0x200 ∧ s.entryFlags { e with taskSwitched := true } = 0x00080246 ∧
    State.entryFlags { State.reset with eflags := 0x00100002 } { e with taskSwitched := true } = 0x00100246 := by decide

/-! ## System management mode -/

/-- In SMM with an area of zeros at SMBASE = 30000h but for these bytes. -/
def inSmmWith (a : Nat) (bs : List Byte) : State :=
  withBytes { State.reset with inSmm := true, cr0 := 0, smmImage := { SmmImage.reset with area := List.replicate 512 0 } } a bs

/-- 46 R364, S6, S9: EIP, SMBASE and EFLAGS from the area; a bad CR0 image ends in shutdown. -/
theorem test_rsm :
    (stateOf (exec (.rsm []) (inSmmWith 0x3FFF0 [0x78, 0x56, 0x34, 0x12]))).map (fun s => (s.inSmm, s.eip, s.eflags))
      = some (false, 0x12345678, 2) ∧
    (stateOf (exec (.rsm []) (inSmmWith 0x3FEFA [0x04]))).map (fun s => s.smbase) = some 0x40000 ∧
    (stateOf (exec (.rsm []) (inSmmWith 0x3FFFF [0x80]))).map (fun s => s.shutdown) = some true := by decide +kernel

/-- S5, S12. -/
theorem test_rsm_refused :
    refusalOf (exec (.rsm []) (inSmmWith 0x3FF02 [0x01])) = some .haltRestart ∧
    raisedBy (exec (.rsm []) State.reset) = some ⟨6, none, 0xFFF0⟩ := by decide +kernel

/-- 60 R560, R567: the handler may write 0000h over the HALT restart word, whatever its other bits were. -/
theorem test_rsm_clears_halt :
    let area := List.replicate 0x102 (0 : Byte) ++ [1, 0xAB] ++ List.replicate 0xFC 0
    let s := { inSmmWith 0x3FF02 [0, 0] with haltedAtSmi := true, smmImage := { SmmImage.reset with area := area } }
    (stateOf (exec (.rsm []) s)).map (fun t => (t.inSmm, t.halted)) = some (false, false) := by decide +kernel

/-! ## Every obligation's hypotheses are met somewhere -/

/-- What the statements about an instruction with an `mm/m64` source ask. -/
abbrev sourceMet (s : State) (x : Rm) (n : Nat) (v : Qword) : Prop :=
  mmxRuns s [] ∧ s.srcMm [] x n = .ok v s

/-- Eight bytes of lane boundaries in memory at 1000h, and a pair of registers. -/
def sourceState (a b : Qword) : State := withBytes (pair a b) 0x1000 [0xFF, 0x7F, 0x00, 0x80, 0xFF, 0xFF, 0x01, 0x00]

/-- A register source and a memory source; the last word the segment holds is a source too. -/
theorem witness_sources :
    sourceMet (sourceState 0x7FFF80000001FFFF 0x00017FFFFFFF0001) (.reg 1) 8 0x00017FFFFFFF0001 ∧
    sourceMet (sourceState 0x7FFF80000001FFFF 0) (.mem (.abs16 0x1000)) 8 0x0001FFFF80007FFF ∧
    sourceMet (sourceState 0 0) (.mem (.abs16 0xFFF8)) 8 0 ∧
    sourceMet (sourceState 0x80FF7F0001FE8081 0) (.mem (.abs16 0x1000)) 4 0x80007FFF :=
  ⟨⟨⟨rfl, rfl, rfl, rfl, rfl⟩, rfl⟩, ⟨⟨rfl, rfl, rfl, rfl, rfl⟩, rfl⟩, ⟨⟨rfl, rfl, rfl, rfl, rfl⟩, rfl⟩,
    ⟨⟨rfl, rfl, rfl, rfl, rfl⟩, rfl⟩⟩

theorem witness_WraparoundSums : sourceMet (pair 0xFFFFFFFFFFFFFFFF 0x0101010101010101) (.reg 1) 8 0x0101010101010101 :=
  ⟨⟨rfl, rfl, rfl, rfl, rfl⟩, rfl⟩
theorem witness_SaturateSigned : sourceMet (pair 0x7F7F7F7F80808080 0x01010101FFFFFFFF) (.reg 1) 8 0x01010101FFFFFFFF :=
  ⟨⟨rfl, rfl, rfl, rfl, rfl⟩, rfl⟩
theorem witness_SaturateUnsigned : sourceMet (pair 0xFFFFFFFF00000000 0x0101010101010101) (.reg 1) 8 0x0101010101010101 :=
  ⟨⟨rfl, rfl, rfl, rfl, rfl⟩, rfl⟩
theorem witness_MultiplyExactProducts : sourceMet (pair 0x8000800080008000 0x8000800080008000) (.reg 1) 8 0x8000800080008000 :=
  ⟨⟨rfl, rfl, rfl, rfl, rfl⟩, rfl⟩
theorem witness_LaneCompare : sourceMet (pair 0x80007FFF00FF0001 0x7FFF7FFF00FF8001) (.reg 1) 8 0x7FFF7FFF00FF8001 :=
  ⟨⟨rfl, rfl, rfl, rfl, rfl⟩, rfl⟩
theorem witness_PackSaturates : sourceMet (pair 0x7FFF8000007FFF80 0x0080FF7F00FF0100) (.reg 1) 8 0x0080FF7F00FF0100 :=
  ⟨⟨rfl, rfl, rfl, rfl, rfl⟩, rfl⟩
theorem witness_UnpackHigh : sourceMet (sourceState 0x0706050403020100 0) (.mem (.abs16 0x1000)) 8 0x0001FFFF80007FFF :=
  ⟨⟨rfl, rfl, rfl, rfl, rfl⟩, rfl⟩
theorem witness_UnpackLow : sourceMet (sourceState 0x0706050403020100 0) (.mem (.abs16 0x1000)) 4 0x80007FFF :=
  ⟨⟨rfl, rfl, rfl, rfl, rfl⟩, rfl⟩
theorem witness_LogicalBitwise : sourceMet (pair 0xFF00FF00F0F0AAAA 0x0FF00FF0FF0055AA) (.reg 1) 8 0x0FF00FF0FF0055AA :=
  ⟨⟨rfl, rfl, rfl, rfl, rfl⟩, rfl⟩

/-- Counts at the lane widths and one above the largest count in the lane. -/
theorem witness_ShiftLogical :
    sourceMet (pair 0x8001FFFF7FFF0180 15) (.reg 1) 8 15 ∧ sourceMet (pair 0x8001FFFF7FFF0180 16) (.reg 1) 8 16 ∧
    sourceMet (pair 0x8001FFFF7FFF0180 32) (.reg 1) 8 32 ∧ sourceMet (pair 0x8001FFFF7FFF0180 64) (.reg 1) 8 64 ∧
    (15 : Qword).toNat ≤ 15 ∧ (16 : Qword).toNat > 15 ∧ (32 : Qword).toNat > 31 ∧ (64 : Qword).toNat > 63 :=
  ⟨⟨⟨rfl, rfl, rfl, rfl, rfl⟩, rfl⟩, ⟨⟨rfl, rfl, rfl, rfl, rfl⟩, rfl⟩, ⟨⟨rfl, rfl, rfl, rfl, rfl⟩, rfl⟩,
    ⟨⟨rfl, rfl, rfl, rfl, rfl⟩, rfl⟩, by decide, by decide, by decide, by decide⟩

theorem witness_ShiftArithmetic :
    sourceMet (pair 0x8001FFFF7FFF0180 15) (.reg 1) 8 15 ∧
    sourceMet (pair 0x8001FFFF7FFF0180 0x100000000) (.reg 1) 8 0x100000000 :=
  ⟨⟨⟨rfl, rfl, rfl, rfl, rfl⟩, rfl⟩, ⟨⟨rfl, rfl, rfl, rfl, rfl⟩, rfl⟩⟩

theorem witness_ShiftImmediate : mmxRuns (pair 0x8001FFFF7FFF0180 0) [] := ⟨rfl, rfl, rfl, rfl, rfl⟩

theorem witness_MmxLoad :
    mmxRuns (sourceState 0 0) [] ∧ (sourceState 0 0).src32 [] (.reg 2) = .ok 0x633 (sourceState 0 0) ∧
    (sourceState 0 0).src32 [] (.mem (.abs16 0x1000)) = .ok 0x80007FFF (sourceState 0 0) ∧
    (sourceState 0 0).srcMm [] (.mem (.abs16 0x1000)) 8 = .ok 0x0001FFFF80007FFF (sourceState 0 0) :=
  ⟨⟨rfl, rfl, rfl, rfl, rfl⟩, rfl, rfl, rfl⟩

theorem witness_MmxStoreRegister : mmxRuns (pair 1 2) [] ∧ ((2 : RegNum) ≠ 1) := ⟨⟨rfl, rfl, rfl, rfl, rfl⟩, by decide⟩

/-- The last bytes the segment holds, every address plain memory and distinct. -/
theorem witness_MmxStoreMemory :
    mmxRuns (pair 1 2) [] ∧ Memory.wf (pair 1 2).physMem ∧
    (pair 1 2).operandAddrs .ds ((pair 1 2).ea (.abs16 0xFFFC)) 4 true = .ok (span 0xFFFC 4) (pair 1 2) ∧
    (pair 1 2).operandAddrs .ds ((pair 1 2).ea (.abs16 0xFFF8)) 8 true = .ok (span 0xFFF8 8) (pair 1 2) ∧
    (∀ a, (pair 1 2).stopAt a = none) ∧ (span 0xFFF8 8).Nodup ∧ allRam (pair 1 2) (span 0xFFF8 8) :=
  ⟨⟨rfl, rfl, rfl, rfl, rfl⟩, by decide, rfl, rfl, fun _ => rfl, by decide, fun _ _ => rfl⟩

/-- MOVQ to 1000h, then MOVD from 1000h and from 1004h (20_memory R82). -/
theorem witness_StoreThenLoad :
    let s := pair 0x0123456789ABCDEF 0
    ∃ u, exec (.movqStore [] 0 (.mem (.abs16 0x1000))) s = .next u ∧ Memory.wf s.physMem ∧ s.pg = false ∧
      (∀ a, s.kind a = .ram) ∧ mmxRuns s [] ∧ (∃ as, s.operandAddrs .ds (s.ea (.abs16 0x1000)) 8 true = .ok as s) ∧
      mmxRuns u [] ∧
      (∃ v t w, u.src32 [] (.mem (.abs16 0x1000)) = .ok v t ∧ exec (.movdLoad [] 1 (.mem (.abs16 0x1000))) u = .next w) ∧
      (∃ v t w, u.src32 [] (.mem (.abs16 0x1004)) = .ok v t ∧ exec (.movdLoad [] 1 (.mem (.abs16 0x1004))) u = .next w) ∧
      s.ea (.abs16 0x1004) = s.ea (.abs16 0x1000) + 4 :=
  ⟨_, rfl, by decide, rfl, fun _ => rfl, ⟨rfl, rfl, rfl, rfl, rfl⟩, ⟨_, rfl⟩, ⟨rfl, rfl, rfl, rfl, rfl⟩, ⟨_, _, _, rfl, rfl⟩,
    ⟨_, _, _, rfl, rfl⟩, by decide⟩

theorem witness_EmmsEmptiesTags :
    State.reset.cfg.mmx = true ∧ mmxRuns State.reset [] ∧ State.em { State.reset with cr0 := 4 } = true ∧
    State.ts { State.reset with cr0 := 8 } = true ∧ State.em { State.reset with cr0 := 8 } = false ∧
    State.fpuPending { State.reset with fsw := 0x80 } = true ∧ locked [.lock] = true :=
  ⟨rfl, ⟨rfl, rfl, rfl, rfl, rfl⟩, rfl, rfl, rfl, rfl, rfl⟩

theorem witness_MmxChecks :
    isMmx (.movqStore [.lock] 1 (.reg 2)) = true ∧ isMmx (.emms []) = true ∧ isMmx (.psrawImm [] 0 1) = true ∧
    isMmx (.cmpxchg8b [] (.reg 0)) = false ∧ locked [.lock] = true ∧ State.em { State.reset with cr0 := 4 } = true ∧
    State.ts { State.reset with cr0 := 8 } = true ∧ State.fpuPending { State.reset with fsw := 0x80 } = true := by decide

/-- One byte beyond the limit: a 4-byte load at FFFDh, an 8-byte load and a store at FFF9h. -/
theorem witness_MmxOperandFaults :
    mmxRuns State.reset [] ∧
    Instr.shape (.movdLoad [] 0 (.mem (.abs16 0xFFFD))) = .modrm 0x6E 0 (.mem (.abs16 0xFFFD)) ∧
    State.reset.operandAddrs .ds (State.reset.ea (.abs16 0xFFFD)) 4 false = .exn .gp ∧
    Instr.shape (.paddb [] 0 (.mem (.abs16 0xFFF9))) = .modrm 0xFC 0 (.mem (.abs16 0xFFF9)) ∧
    State.reset.operandAddrs .ds (State.reset.ea (.abs16 0xFFF9)) 8 false = .exn .gp ∧
    Instr.shape (.movqStore [] 0 (.mem (.abs16 0xFFF9))) = .modrm 0x7F 0 (.mem (.abs16 0xFFF9)) ∧
    State.reset.operandAddrs .ds (State.reset.ea (.abs16 0xFFF9)) 8 true = .exn .gp :=
  ⟨⟨rfl, rfl, rfl, rfl, rfl⟩, rfl, rfl, rfl, rfl, rfl, rfl⟩

/-- A 32-bit form, a 16-bit form, an operand beyond the limit, and the forms that raise #UD. -/
theorem witness_CmovMovesIfCondition :
    locked [] = false ∧ hasCmov Config.default = true ∧ (protAt 0).wideOperand [] = true ∧
    (protAt 0).src32 [] (.reg 3) = .ok 0 (protAt 0) ∧ State.reset.wideOperand [] = false ∧
    State.reset.src16 [] (.mem (.abs16 0xFFFE)) = .ok 0 State.reset ∧
    State.reset.src16 [] (.mem (.abs16 0xFFFF)) = .exn .gp ∧ State.reset.wideOperand [.opSize] = true ∧
    State.reset.src32 [] (.mem (.abs16 0xFFFD)) = .exn .gp ∧ locked [.opSize, .lock] = true ∧
    hasCmov { Config.default with family := .p5 } = false :=
  ⟨rfl, rfl, rfl, rfl, rfl, rfl, rfl, rfl, rfl, rfl, rfl⟩

theorem witness_FcmovMovesIfCondition : fpuRuns (fpuState one two 1) [] ∧ stackFull (fpuState one two 1) 7 :=
  ⟨⟨rfl, rfl, rfl, rfl, rfl⟩, rfl, rfl⟩

/-- ST(1) empty, masked and unmasked. -/
theorem witness_StackUnderflow :
    fpuRuns { fpuState one two 0 with ftw := 0xC } [] ∧ State.underflow { fpuState one two 0 with ftw := 0xC } 1 = true ∧
    State.invalidMasked { fpuState one two 0 with ftw := 0xC } = true ∧
    fpuRuns { fpuState one two 0 with ftw := 3, fcw := 0x40 } [] ∧
    State.underflow { fpuState one two 0 with ftw := 3, fcw := 0x40 } 1 = true ∧
    State.invalidMasked { fpuState one two 0 with ftw := 3, fcw := 0x40 } = false :=
  ⟨⟨rfl, rfl, rfl, rfl, rfl⟩, rfl, rfl, ⟨rfl, rfl, rfl, rfl, rfl⟩, rfl, rfl⟩

/-- The greatest finite number and infinity; both zeros; a denormal. -/
theorem witness_CompareOrdered :
    fpuRuns (fpuState 0x7FFEFFFFFFFFFFFFFFFF 0x7FFF8000000000000000 0) [] ∧
    stackFull (fpuState 0x7FFEFFFFFFFFFFFFFFFF 0x7FFF8000000000000000 0) 1 ∧ isOrdered 0x7FFEFFFFFFFFFFFFFFFF ∧
    isOrdered 0x7FFF8000000000000000 ∧ isOrdered 0 ∧ isOrdered 0x80000000000000000000 ∧ isOrdered 1 :=
  ⟨⟨rfl, rfl, rfl, rfl, rfl⟩, ⟨rfl, rfl⟩, ⟨rfl, rfl⟩, ⟨rfl, rfl⟩, ⟨rfl, rfl⟩, ⟨rfl, rfl⟩, ⟨rfl, rfl⟩⟩

/-- The least NaN patterns, an unsupported format, masked and unmasked. -/
theorem witness_CompareUnordered :
    fpuRuns (fpuState qnan snan 0) [] ∧ stackFull (fpuState qnan snan 0) 1 ∧ isNan qnan = true ∧ isSnan qnan = false ∧
    isSnan snan = true ∧ isSnan 0x7FFF8000000000000001 = true ∧ unsupported 0x00017FFFFFFFFFFFFFFF = true ∧
    unsupported 0x00007FFFFFFFFFFFFFFF = false ∧ State.invalidMasked (fpuState qnan snan 0) = true ∧
    State.invalidMasked { fpuState qnan snan 0 with fcw := 0 } = false :=
  ⟨⟨rfl, rfl, rfl, rfl, rfl⟩, ⟨rfl, rfl⟩, rfl, rfl, rfl, rfl, rfl, rfl, rfl, rfl⟩

theorem witness_FpuChecks :
    locked [] = false ∧ hasCmov State.reset.cfg = true ∧ State.ts { State.reset with cr0 := 8 } = true ∧
    State.em { State.reset with cr0 := 4 } = true ∧ locked [.lock] = true := by decide

theorem witness_Cmpxchg8bCompareExchange :
    let s := exchangeState 0x11223344 0x55667788
    Memory.wf s.physMem ∧ s.operandAddrs .ds (s.ea (.based32 6 .none)) 8 true = .ok (span 0x500 8) s ∧
    (∀ a ∈ span 0x500 8, s.stopAt a = none) ∧ (span 0x500 8).Nodup ∧ allRam s (span 0x500 8) ∧
    s.edxEax = leValue 64 (readBytes s.physMem (span 0x500 8)) ∧
    (exchangeState 0x11223344 0x55667789).edxEax ≠ leValue 64 (readBytes s.physMem (span 0x500 8)) :=
  ⟨by decide, rfl, fun _ _ => rfl, by decide, fun _ _ => rfl, by decide, by decide⟩

theorem witness_Cmpxchg8bTraps : State.reset.operandAddrs .ds (State.reset.ea (.abs16 0xFFF9)) 8 true = .exn .gp := rfl

theorem witness_CpuidLeaves :
    locked [] = false ∧ State.reset.r32 rEAX = 0 ∧ (State.reset.setR32 rEAX 1).r32 rEAX = 1 ∧
    (State.reset.setR32 rEAX 2).r32 rEAX = 2 ∧ State.reset.cfg.family = .p6 ∧ rESI ∉ [rEAX, rEBX, rECX, rEDX] := by decide

theorem witness_RdtscReadsCounter :
    locked [] = false ∧ State.tsd { protAt 3 with cr4 := 4 } = true ∧ (protAt 3).cplNow ≠ 0 ∧ (protAt 3).tsd = false ∧
    (protAt 0).cplNow = 0 := by decide

/-- MSRs 10h and 13h, the ends of the range, and 14h outside it; CPL 3; virtual-8086 mode. -/
theorem witness_RdmsrReadsRegister :
    locked [] = false ∧ msrRuns (State.reset.setR32 1 0x10) ∧ msrRuns (State.reset.setR32 1 0x13) ∧
    (State.reset.setR32 1 0x10).r32 rECX ∈ ([0x10, 0x11, 0x12, 0x13] : List Dword) ∧
    Config.default.msrValid.contains ((State.reset.setR32 1 0x14).r32 rECX).toNat = false ∧
    Config.default.msrValid.contains ((State.reset.setR32 1 0x0F).r32 rECX).toNat = false ∧ (protAt 3).cplNow ≠ 0 ∧
    (v86 0 0).mode = .v86 :=
  ⟨rfl, ⟨by decide, by decide, by decide⟩, ⟨by decide, by decide, by decide⟩, by decide, by decide, by decide, by decide, by decide⟩

/-- The same, and values of CESR with and without a reserved bit: bits 9 and 25 are the last of their fields. -/
theorem witness_WrmsrWritesRegister :
    locked [] = false ∧ msrRuns (State.reset.setR32 1 0x10) ∧ msrRuns (State.reset.setR32 1 0x11) ∧
    msrRuns (State.reset.setR32 1 0x13) ∧ (protAt 3).cplNow ≠ 0 ∧ (v86 0 0).mode = .v86 ∧
    (∃ k < 64, k ∉ [0, 1, 2, 3, 4, 5, 6, 7, 8, 9, 16, 17, 18, 19, 20, 21, 22, 23, 24, 25] ∧
      (State.reset.setEdxEax 0x400).edxEax.getLsbD k = true) ∧
    (∀ k < 64, k ∉ [0, 1, 2, 3, 4, 5, 6, 7, 8, 9, 16, 17, 18, 19, 20, 21, 22, 23, 24, 25] →
      (State.reset.setEdxEax 0x03FF03FF).edxEax.getLsbD k = false) :=
  ⟨rfl, ⟨by decide, by decide, by decide⟩, ⟨by decide, by decide, by decide⟩, ⟨by decide, by decide, by decide⟩, by decide,
    by decide, ⟨10, by decide, by decide, by decide⟩, by decide⟩

theorem witness_RdpmcReadsCounter :
    locked [] = false ∧ State.reset.cfg.rdpmc = true ∧ State.reset.r32 rECX = 0 ∧ (State.reset.setR32 1 1).r32 rECX = 1 ∧
    (State.reset.setR32 1 2).r32 rECX ≠ 0 ∧ (State.reset.setR32 1 2).r32 rECX ≠ 1 ∧ State.reset.cplNow = 0 ∧
    (protAt 3).pce = false ∧ (protAt 3).cplNow ≠ 0 ∧ State.pce { protAt 3 with cr4 := 0x100 } = true := by decide

theorem witness_Ud2RaisesInvalidOpcode : (protAt 3).mode = .prot ∧ (∃ t, exec (.ud2 []) State.reset = .next t) := ⟨rfl, _, rfl⟩

theorem witness_LockPrefix :
    locked (Instr.parts (.emms [.lock])).1 = true ∧ (∀ p x, Instr.emms [.lock] ≠ .cmpxchg8b p x) ∧
    ∃ t as bs, exec (.cmpxchg8b [] (.mem (.abs16 0xFFF8))) State.reset = .next t ∧
      State.reset.operandAddrs .ds (State.reset.ea (.abs16 0xFFF8)) 8 true = .ok as State.reset ∧
      State.reset.readPhys as = .ok bs State.reset :=
  ⟨rfl, by simp, _, _, _, rfl, rfl, rfl⟩

/-- An area of zeros: it resumes; with the I/O restart field FFh it resumes at the I/O instruction; the HALT flag set of a
processor that was not halted. -/
theorem witness_RsmRestores :
    let bs : List Byte := List.replicate 512 0
    let s := { State.reset with
      inSmm := true, haltedAtSmi := true, ioRestartEip := some 0x1234, smmImage := { SmmImage.reset with area := bs } }
    let cs : List Byte := List.replicate 0x100 0 ++ [0xFF, 0, 1, 0] ++ List.replicate 0xFC 0
    locked [] = false ∧ State.reset.inSmm = false ∧ s.inSmm = true ∧
    s.readPhys (areaAddrs s.smbase) = .ok bs s ∧ s.rsmBad bs = false ∧ areaKept s.smmImage.area bs = true ∧
    s.smbaseRefused bs = false ∧ (slot16 bs 0x102).getLsbD 0 = false ∧ slot16 bs 0x100 = 0 ∧
    areaKept s.smmImage.area cs = true ∧ (slot16 cs 0x102).getLsbD 0 = true ∧ s.haltedAtSmi = true ∧
    slot16 cs 0x100 = 0x00FF ∧ s.cfg.smmRevision.getLsbD 16 = true ∧ s.ioRestartEip = some 0x1234 ∧
    State.haltedAtSmi { s with haltedAtSmi := false } = false ∧
    (withBytes s 0x3FF00 [0xFF, 0, 1, 0]).readPhys (areaAddrs s.smbase) = .ok cs (withBytes s 0x3FF00 [0xFF, 0, 1, 0])
    := by decide +kernel

/-- Each of the four conditions: CR4 in the hidden image, PG without PE, NW without CD, on P5 an SMBASE that is no
multiple of 32 KB. -/
theorem witness_RsmShutdown :
    let zeros : List Byte := List.replicate 512 0
    let met := fun (s : State) (bs : List Byte) =>
      s.inSmm = true ∧ s.readPhys (areaAddrs s.smbase) = .ok bs s ∧ s.inputs = []
    let bits := fun (v : Dword) i j => v.getLsbD i = true ∧ v.getLsbD j = false
    let crooked := { inSmmWith 0x3FFFF [0] with smmImage := { SmmImage.reset with cr4 := 0x200, area := zeros } }
    let pg := List.replicate 0x1FF 0 ++ [0x80]
    let nw := List.replicate 0x1FF 0 ++ [0x20]
    let far := List.replicate 0xF8 0 ++ [1] ++ List.replicate 0x107 0
    let p5 := { inSmmWith 0x3FEF8 [1] with cfg := { Config.default with family := .p5, features := 0x008001BF } }
    locked [] = false ∧ (met crooked zeros ∧ crooked.smmImage.cr4 &&& cr4Reserved crooked.cfg ≠ 0) ∧
    (met (inSmmWith 0x3FFFF [0x80]) pg ∧ bits (slot32 pg 0x1FC) 31 0) ∧
    (met (inSmmWith 0x3FFFF [0x20]) nw ∧ bits (slot32 nw 0x1FC) 29 30) ∧
    (met p5 far ∧ p5.cfg.family = .p5 ∧ p5.cfg.smmRevision.getLsbD 17 = true ∧ (slot32 far 0xF8).toNat % 0x8000 ≠ 0)
    := by decide +kernel

theorem witness_SmiEntry :
    State.reset.inSmm = false ∧ Memory.wf State.reset.mem ∧ Memory.wf State.reset.smram ∧
    allRam { State.reset with inSmm := true } (areaAddrs State.reset.smbase) :=
  ⟨rfl, by decide, by decide, fun _ _ => rfl⟩

theorem witness_reset_Inv : Inv State.reset := ⟨by decide, by decide, by decide, by decide, by decide, by decide⟩

/-- Entry succeeds wherever the area is plain memory. -/
theorem witness_SmiThenRsm :
    Inv State.reset ∧ State.reset.inSmm = false ∧ cr0Illegal State.reset.cr0 = false ∧
    allRam { State.reset with inSmm := true } (areaAddrs State.reset.smbase) ∧ ∃ t, smiEntry State.reset = .ok () t := by
  refine ⟨witness_reset_Inv, rfl, by decide, fun _ _ => rfl, ?_⟩
  have h : ((((areaAddrs State.reset.smbase).zip (areaBytes State.reset (State.reset.free 4096))).map Prod.fst).findSome?
      (State.stopAt { State.reset.drew with inSmm := true })) = none := by
    rw [List.findSome?_eq_none_iff]
    exact fun _ _ => rfl
  unfold smiEntry State.writePhys
  simp only [h]
  exact ⟨_, rfl⟩

/-- An exception that is delivered, a page fault, one in protected mode with paging off, one whose delivery raises a page
fault, and INT n whose delivery raises one. -/
theorem witness_ExceptionRaiseSide :
    (State.reset.mode = .real ∧ ∃ t, takeException .ud State.reset = .next t ∧ t.deliveryExn = none) ∧
    (∃ t, takeException (.pf 2 0x1000) State.reset = .next t ∧ t.deliveryExn = none) ∧
    ((protAt 3).mode = .prot ∧ (protAt 3).pg = false ∧ ∃ t, takeException .gp (protAt 3) = .next t) ∧
    ((noStack.raised (.redirected 0x21) 0).deliver (.redirected 0x21) 0 = .exn (.pf 2 0xFE)) ∧
    ∃ t, takeException .ud noStack = .next t ∧ ∃ c la, t.deliveryExn = some (.pf c la) := by
  exact ⟨⟨rfl, _, rfl, rfl⟩, ⟨_, rfl, rfl⟩, ⟨rfl, rfl, raise_prot rfl ..⟩, rfl,
    ⟨_, rfl, takenOver_fault _ _ _ ⟨_, _, rfl⟩⟩⟩

/-- Paging off, plain memory, and the stack and table entry at these addresses, apart from each other. -/
theorem ready {s : State} {v : Byte} (stack : List Nat) (flat : s.pg = false) (mem : Memory.wf s.physMem)
    (one : s.segCheck .ss ((s.r16 rESP - 2).setWidth 32) 2 true = none)
    (two : s.segCheck .ss ((s.r16 rESP - 4).setWidth 32) 2 true = none)
    (three : s.segCheck .ss ((s.r16 rESP - 6).setWidth 32) 2 true = none)
    (at_ : s.realStack = stack) (apart : stack.Nodup) (ram : ∀ a, s.kind a = .ram)
    (entry : ∀ a ∈ tableEntry v, a ∉ stack) : RealReady s v :=
  ⟨flat, mem, by simpa using And.intro one (And.intro two three), at_ ▸ apart, fun a _ => ram a,
    fun a h => ⟨at_ ▸ entry a h, by unfold State.stopAt; rw [ram a]⟩⟩

/-- SP = 6: the three pushes just fit; the entry of #UD at 18h. -/
def fits : State := State.reset.setR32 rESP 6

theorem ready_fits (v : Byte) (h : ∀ a ∈ tableEntry v, a ∉ [4, 5, 2, 3, 0, 1]) : RealReady fits v :=
  ready [4, 5, 2, 3, 0, 1] rfl (by decide) rfl rfl rfl (by decide) (by decide) (fun _ => rfl) h

theorem ready_smm (v : Byte) (h : ∀ a ∈ tableEntry v, a ∉ [4, 5, 2, 3, 0, 1]) : RealReady { fits with inSmm := true } v :=
  ready [4, 5, 2, 3, 0, 1] rfl (by decide) rfl rfl rfl (by decide) (by decide) (fun _ => rfl) h

/-- Virtual-8086 mode with VME and IOPL 2, SP = 100h. -/
def iopl2 : State := { v86 1 0x2000 with gpr := #v[0, 0, 0, 0, 0x100, 0, 0, 0] }

theorem ready_iopl2 (v : Byte) (h : ∀ a ∈ tableEntry v, a ∉ [0xFE, 0xFF, 0xFC, 0xFD, 0xFA, 0xFB]) : RealReady iopl2 v :=
  ready [0xFE, 0xFF, 0xFC, 0xFD, 0xFA, 0xFB] rfl (by decide) rfl rfl rfl (by decide) (by decide) (fun _ => rfl) h

theorem ready_int21 : RealReady int21 0x21 :=
  ready [0x200FE, 0x200FF, 0x200FC, 0x200FD, 0x200FA, 0x200FB] rfl (by decide) rfl rfl rfl (by decide) (by decide)
    (fun _ => rfl) (by decide)

/-- A gate whose stack just holds the frame of an event with an error code. -/
def gate40 : Gate :=
  { cs := Seg.resetCode, eip := 0, ss := { Seg.resetData with limit := 39 }, esp := 40, flags := 0 }

/-- The frame of #GP and of the deferred interrupt, 40 bytes, and of NMI, 36 bytes. -/
theorem witness_Pl0Ready :
    Pl0Ready (v86 0 0) gate40 (.exn .gp) ∧ Pl0Ready (v86 1 0x00080200) gate40 .deferred ∧ Pl0Ready (v86 0 0) gate40 .nmi ∧
    (v86 0 0).mode = .v86 ∧ (v86 0 0).vme = false ∧ (v86 1 0x00080200).mode = .v86 :=
  ⟨⟨rfl, by decide, by decide, fun _ _ => rfl⟩, ⟨rfl, by decide, by decide, fun _ _ => rfl⟩,
    ⟨rfl, by decide, by decide, fun _ _ => rfl⟩, rfl, rfl, rfl⟩

/-- Real-address mode and SMM with #UD, NMI, the single step, INTR# and INT n at either end of the vectors that stand clear
of the stack; method 6 with each of its events; INT 21h redirected, its bit set, without VME, IOPL below 3 and outside
virtual-8086 mode; privilege level 0. -/
theorem witness_RealDelivery :
    (fits.mode = .real ∧ State.mode { fits with inSmm := true } = .smm ∧
      ∀ c ∈ [Cause.exn .ud, .nmi, .intr 0xFF, .soft 2, .soft 0xFF],
        RealReady fits c.vector ∧ RealReady { fits with inSmm := true } c.vector) ∧
    (iopl2.mode = .v86 ∧ iopl2.vme = true ∧ iopl2.iopl ≠ 3 ∧
      ∀ c ∈ [Cause.exn .ud, .singleStep, .nmi, .intr 0x20, .intr 0xFF], RealReady iopl2 c.vector) ∧
    (int21.mode = .v86 ∧ int21.iopl = 3 ∧ int21.vme = true ∧ int21.redirectionBit 0x21 = .ok false int21 ∧
      RealReady int21 0x21) ∧
    (∃ t, (withBytes int21 0x66C [0x02]).redirectionBit 0x21 = .ok true t) ∧
    noPageInt.redirectionBit 0x21 = .exn (.pf 0 0x666) ∧
    ((v86 0 0x3000).mode = .v86 ∧ (v86 0 0x3000).iopl = 3 ∧ (v86 0 0x3000).vme = false) ∧
    ((v86 1 0).mode = .v86 ∧ (v86 1 0).iopl ≠ 3) ∧ State.reset.mode ≠ .v86 ∧ Pl0Ready (v86 0 0) gate40 (.exn .gp) := by
  refine ⟨⟨rfl, rfl, fun c h => ?_⟩, ⟨rfl, rfl, by decide, fun c h => ready_iopl2 _ ?_⟩,
    ⟨rfl, rfl, rfl, rfl, ready_int21⟩, ⟨_, rfl⟩, rfl, ⟨rfl, rfl, rfl⟩, ⟨rfl, by decide⟩, by decide, witness_Pl0Ready.1⟩
  · have k : ∀ c ∈ [Cause.exn .ud, .nmi, .intr 0xFF, .soft 2, .soft 0xFF], ∀ a ∈ tableEntry c.vector,
        a ∉ [4, 5, 2, 3, 0, 1] := by decide
    exact ⟨ready_fits _ (k c h), ready_smm _ (k c h)⟩
  · revert c
    decide

/-- Each event alone at the boundary, with none above it; a deferred request with VIP clear and set; HLT at both levels. -/
theorem witness_EventOrder :
    let s := State.reset
    let v := { v86 1 0x00080200 with intrLine := some 0x20 }
    let p := { protAt 3 with cr4 := 2, eflags := 0x00080202, intrLine := some 0xFF }
    s.inputs = [] ∧ (State.smiLatched { s with smiLatched := true } = true ∧ s.inSmm = false ∧ s.shutdown = false) ∧
    State.shutdown { s with shutdown := true } = true ∧ (s.smiLatched = false ∧ s.stepTrap = false) ∧
    State.stepTrap { s with stepTrap := true } = true ∧
    (State.nmiLatched { s with nmiLatched := true } = true ∧ s.nmiBlocked = false) ∧
    State.nmiBlocked { s with nmiLatched := true, nmiBlocked := true } = true ∧
    (State.flag { s with eflags := 0x202 } bitIF = true ∧ State.intrLine { s with intrLine := some 0 } = some 0 ∧
      s.mode = .real) ∧ s.flag bitIF = false ∧
    (v.iopl ≠ 3 ∧ v.flag bitVIF = v.cfg.vifSetMeansMasked ∧ v.mode = .v86 ∧ v.vme = true ∧ v.flag bitIF = true ∧
      v.flag bitVIP = false ∧ State.flag { v with eflags := 0x001A0202 } bitVIP = true) ∧
    (p.iopl ≠ 3 ∧ p.flag bitVIF = p.cfg.vifSetMeansMasked ∧ p.mode = .prot ∧ p.pvi = true ∧ p.cplNow = 3) ∧
    State.halted { s with halted := true } = true ∧ (s.halted = false ∧ s.intrLine = none) ∧ s.cplNow = 0 ∧
    (protAt 3).cplNow ≠ 0 := by decide

/-- RESET# in the halt state of SMM, and in shutdown. -/
theorem witness_EventOrder_reset :
    let s := { State.reset with inputs := [some .reset, none] }
    State.inputs { s with inSmm := true, halted := true } = some .reset :: [none] ∧
    State.inputs { s with shutdown := true } = some .reset :: [none] := ⟨rfl, rfl⟩

/-- Each input outside shutdown, outside and in SMM, with an SMI# latched there, and in the halt state of SMM. -/
theorem witness_EventOrder_inputs :
    ∀ i ∈ [Input.smi none, .nmi, .intr 0x20, .intrOff, .flush, .a20m, .init],
      let s := { State.reset with inputs := [some i, none] }
      s.inputs = [some i, none] ∧ s.shutdown = false ∧ s.inSmm = false ∧
      State.inSmm { s with inSmm := true } = true ∧ State.smiLatched { s with inSmm := true, smiLatched := true } = true ∧
      State.halted { s with inSmm := true, halted := true } = true ∧ State.inputs { s with inputs := [none] } = [none] :=
  fun _ _ => ⟨rfl, rfl, rfl, rfl, rfl, rfl, rfl⟩

/-- Virtual-8086 mode, protected mode with PVI, VIP set and clear; outside both, IOPL 2 and 3 at CPL 3; virtual-8086 mode
without VME. -/
theorem witness_VirtualInterrupts :
    let pvi := { protAt 3 with cr4 := 2 }
    ((v86 1 0).iopl ≠ 3 ∧ (v86 1 0).mode = .v86 ∧ (v86 1 0).vme = true) ∧
    (pvi.iopl ≠ 3 ∧ pvi.mode = .prot ∧ pvi.pvi = true ∧ pvi.cplNow = 3) ∧ (v86 1 0).flag bitVIP = false ∧
    (v86 1 0x00100000).flag bitVIP = true ∧
    (State.pvi { protAt 3 with eflags := 0x2002 } = false ∧
      (State.cplNow { protAt 3 with eflags := 0x2002 }).toNat > (State.iopl { protAt 3 with eflags := 0x2002 }).toNat) ∧
    (State.iopl { protAt 3 with eflags := 0x3002 } = 3 ∧
      (State.cplNow { protAt 3 with eflags := 0x3002 }).toNat ≤ (State.iopl { protAt 3 with eflags := 0x3002 }).toNat) ∧
    ((v86 0 0x2000).mode = .v86 ∧ (v86 0 0x2000).iopl ≠ 3 ∧ (v86 0 0x2000).vme = false) := by
  decide

/-- Each check of an operand is met and missed: null and read-only segments, the last and the first byte beyond the
limit, an address one off alignment. -/
theorem witness_OperandChecks :
    let ac := { protAt 3 with cr0 := 0x60040011, eflags := 0x00040002 }
    let null := { protAt 0 with segs := { (protAt 0).segs with ds := Seg.resetData } }
    let rom := { protAt 0 with segs := { (protAt 0).segs with ds := { (protAt 0).segs.ds with writable := false } } }
    (null.mode = .prot ∧ (null.segs.get .ds).sel = 0) ∧ (rom.mode = .prot ∧ (rom.segs.get .ds).writable = false) ∧
    (State.reset.mode = .real ∧ (v86 0 0).mode = .v86 ∧ 0xFFF9 + 8 - 1 > 0xFFFF ∧ ¬ 0xFFF8 + 8 - 1 > 0xFFFF) ∧
    (State.mode { State.reset with inSmm := true } = .smm ∧ 0xFFFFFFF9 + 8 - 1 > 0xFFFFFFFF ∧
      ¬ 0xFFFFFFF8 + 8 - 1 > 0xFFFFFFFF) ∧
    (null.segs.ds.limit = 0xFFFF ∧ (protAt 0).segs.ds.limit = 0xFFFFFFFF) ∧
    (ac.cplNow = 3 ∧ ac.am = true ∧ ac.flag bitAC = true ∧ (ac.lin .ds 0x1004).toNat % 8 ≠ 0 ∧
      (ac.lin .ds 0x1004).toNat % 4 = 0) ∧ State.reset.pg = false := by decide

theorem witness_PagingOffIsIdentity : State.reset.pg = false := rfl

/-- A present and an absent table entry, a 4-MB page, one with a reserved bit, and an absent directory entry. -/
theorem witness_PageWalk32 :
    (w1.pae = false ∧ w1.readEntry 0x00100120 4 = .ok 0x00200007 w1 ∧ w1.readEntry 0x00200D14 4 = .ok 0x00ABC007 w1) ∧
    w1.readEntry 0x00200D18 4 = .ok 0 w1 ∧
    (w4.pse = true ∧ w4.readEntry 0x00100120 4 = .ok 0x00C00087 w4) ∧ w6.readEntry 0x00100120 4 = .ok 0x00C01087 w6 ∧
    w1.readEntry 0x00100124 4 = .ok 0 w1 ∧
    (w1.cr3.extractLsb' 12 20 ++ (0x12345678 : Dword).extractLsb' 22 10 ++ 0#2).toNat = 0x00100120 :=
  ⟨⟨rfl, rfl, rfl⟩, rfl, ⟨rfl, rfl⟩, rfl, rfl, by decide⟩

/-- W7 and W8; then, at each level, an absent entry and one with a reserved bit: bit 1 and bit 8 of a PDPT entry, bit 36
of each entry, bit 20 of a 2-MB page. -/
theorem witness_PageWalkPae :
    (w7.pae = true ∧ w7.readEntry 0x00100038 8 = .ok 0x201001 w7 ∧ w7.readEntry 0x00201008 8 = .ok 0x100300007 w7 ∧
      w7.readEntry 0x100300A28 8 = .ok 0xF00ABC007 w7) ∧
    w8.readEntry 0x00201008 8 = .ok 0x200400087 w8 ∧ w8.readEntry 0x00201010 8 = .ok 0 w8 ∧
    w7.readEntry 0x00100030 8 = .ok 0 w7 ∧ w7.readEntry 0x100300A30 8 = .ok 0 w7 ∧
    ([(0x00100038, [3], 0x00100038, 0x201003), (0x00100039, [0x11], 0x00100038, 0x201101),
      (0x0010003C, [0x10], 0x00100038, 0x1000201001), (0x0020100C, [0x10], 0x00201008, 0x1000300007),
      (0x00201008, [0x87, 0, 0x50], 0x00201008, 0x100500087), (0x100300A2C, [0x10], 0x100300A28, 0x1000ABC007)] :
        List (Nat × List Byte × Nat × BitVec 64)).all
      (fun r => (withBytes w7 r.1 r.2.1).readEntry r.2.2.1 8 == .ok r.2.2.2 (withBytes w7 r.1 r.2.1)) = true ∧
    (w7.cr3.extractLsb' 5 27 ++ (0xC0345678 : Dword).extractLsb' 30 2 ++ 0#3).toNat = 0x00100038 :=
  ⟨⟨rfl, rfl, rfl, rfl⟩, rfl, rfl, rfl, rfl, rfl, by decide⟩

/-- W10: a read-only page: a user write, a supervisor write with WP set, and with WP clear, which translates; a page of
the supervisor: a user read, and a supervisor read, which translates. -/
theorem witness_PageProtection :
    let s := withBytes w1 0x00200D14 [0x05]
    let r := withBytes w1 0x00200D14 [0x01]
    (∃ w, s.drew.walk 0x12345678 ⟨true, true⟩ = .ok w s.drew ∧ w.entry.writable = false ∧ w.entry.user = true ∧
      s.pg = true ∧ s.tlb = [] ∧ State.wp { s with cr0 := 0xE0010011 } = true) ∧
    (∃ w, s.drew.walk 0x12345678 ⟨false, true⟩ = .ok w s.drew ∧ w.entry.writable = false ∧ s.wp = false ∧
      ∀ a ∈ w.entry.leaf :: w.accessed, s.stopAt a = none) ∧
    (∃ w, r.drew.walk 0x12345678 ⟨true, false⟩ = .ok w r.drew ∧ w.entry.user = false) ∧
    (∃ w, r.drew.walk 0x12345678 ⟨false, false⟩ = .ok w r.drew ∧ ∀ a ∈ w.entry.leaf :: w.accessed, r.stopAt a = none) ∧
    (covers remembered 0x12345678 = true ∧ remembered.user = false ∧ remembered.writable = true ∧
      w1.stopAt remembered.leaf = none) :=
  ⟨⟨_, rfl, rfl, rfl, rfl, rfl, rfl⟩, ⟨_, rfl, rfl, rfl, fun _ _ => rfl⟩, ⟨_, rfl, rfl⟩, ⟨_, rfl, fun _ _ => rfl⟩,
    ⟨rfl, rfl, rfl, rfl⟩⟩

/-- A write and a read through W1, and through a remembered walk that is not dirty and one that is. -/
theorem witness_AccessedDirty :
    w1.pg = true ∧ w1.tlb = [] ∧ Memory.wf w1.physMem ∧ (∀ a, w1.kind a = .ram) ∧
    (∃ w, w1.drew.walk 0x12345678 ⟨false, true⟩ = .ok w w1.drew) ∧
    (∃ pa t, w1.translate 0x12345678 ⟨false, true⟩ = .ok pa t) ∧
    (∃ w, w1.drew.walk 0x12345678 ⟨false, false⟩ = .ok w w1.drew) ∧
    (∃ pa t, w1.translate 0x12345678 ⟨false, false⟩ = .ok pa t) ∧
    (∃ pa t, State.through { w1 with tlb := [remembered] } remembered 0x12345678 ⟨false, true⟩ = .ok pa t) ∧
    ∃ pa t, w1.through { remembered with dirty := true } 0x12345678 ⟨false, true⟩ = .ok pa t :=
  ⟨rfl, rfl, by decide, fun _ => rfl, ⟨_, rfl⟩, ⟨_, _, rfl⟩, ⟨_, rfl⟩, ⟨_, _, rfl⟩, ⟨_, _, rfl⟩, ⟨_, _, rfl⟩⟩

/-- CPL 3 and CPL 0; the last reserved and the last defined bit of CR4 on P6; a reserved bit of CR0 next to a defined one,
an illegal pair, a legal value; PAE and paging turned on in SMM; DE set and clear. -/
theorem witness_ControlRegisterMoves :
    let smm := { State.reset with inSmm := true, gpr := #v[0x20, 0x80000011, 0, 0, 0, 0, 0, 0] }
    (protAt 3).cplNow ≠ 0 ∧ State.reset.cplNow = 0 ∧ State.reset.inSmm = false ∧
    (State.reset.setR32 0 0x200).r32 0 &&& cr4Reserved Config.default ≠ 0 ∧
    (State.reset.setR32 0 0x1FF).r32 0 &&& cr4Reserved Config.default = 0 ∧
    ((0x60000050 : Dword) &&& cr0Reserved ≠ 0 ∧ (0x60000031 : Dword) &&& cr0Reserved = 0) ∧
    ((0x80000010 : Dword).getLsbD 31 = true ∧ (0x80000010 : Dword).getLsbD 0 = false) ∧
    ((0x20000010 : Dword).getLsbD 29 = true ∧ (0x20000010 : Dword).getLsbD 30 = false) ∧
    (smm.cplNow = 0 ∧ smm.inSmm = true ∧ (smm.r32 0).getLsbD 5 = true ∧ (smm.r32 1).getLsbD 31 = true ∧
      smm.pae = false ∧ smm.pg = false ∧ State.pae { smm with cr4 := 0x20 } = true) ∧
    (State.reset.de = false ∧ (protAt 3).de = false) ∧ State.de { State.reset with cr4 := 8 } = true ∧
    State.de { protAt 3 with cr4 := 8 } = true := by decide

theorem witness_DecodeEncode :
    (Instr.paddb (List.replicate 12 .rep) 1 (.reg 2)).wf true = true ∧
    (Instr.pslldImm [] 7 0xFF).wf false = true ∧ (Instr.emms []).length = 2 := by decide

theorem witness_EncodeDecode :
    decode true (List.replicate 12 0xF3 ++ [0x0F, 0xFC, 0xCA]) = .instr (.paddb (List.replicate 12 .rep) 1 (.reg 2)) ∧
    (Instr.paddb (List.replicate 12 .rep) 1 (.reg 2)).length = 15 := by decide

/-- Fields next to the assigned ones. -/
theorem witness_ReservedOpcodes :
    modField 0x10 ≠ 3 ∧ regField 0xC8 ∉ ([2, 4, 6] : List RegNum) ∧ regField 0xE0 = 4 ∧ regField 0x06 ≠ 1 := by decide

/-- A state whose next bytes are these. -/
def placed (bs : List Byte) : State := State.reset.placeBytes bs

theorem witness_StepRunsDecoded :
    (placed [0x0F, 0x77]).inputs = [] ∧ pendingEvent (placed [0x0F, 0x77]) = none ∧
    (placed [0x0F, 0x77]).fetch = .ok (.instr (.emms [])) (placed [0x0F, 0x77]) ∧
    (placed [0x0F, 0x77]).flag bitTF = false ∧ ∃ u, exec (.emms []) (placed [0x0F, 0x77]).begun = .next u :=
  ⟨rfl, rfl, rfl, rfl, _, rfl⟩

/-- Fifteen prefix bytes; one prefix byte at the CS limit; CS:EIP beyond it. -/
theorem witness_StepRunsBytes_fault :
    let met := fun (s : State) (bs : List Byte) =>
      s.inputs = [] ∧ pendingEvent s = none ∧ s.pg = false ∧
      ∀ k < bs.length, s.segCheck .cs (s.eip + BitVec.ofNat 32 k) 1 false = none ∧
        s.stopAt (s.lin .cs (s.eip + BitVec.ofNat 32 k)).toNat = none ∧
        bs[k]? = some (readByte s.physMem (s.lin .cs (s.eip + BitVec.ofNat 32 k)).toNat) ∧
        decode s.bigCode (bs.take (k + 1)) = .needMore
    let last := { State.reset with eip := 0xFFFF }
    let beyond := { State.reset with eip := 0x10000 }
    met (placed (List.replicate 15 0xF3)) (List.replicate 15 0xF3) ∧
    (met (last.placeBytes [0xF3]) [0xF3] ∧ (last.placeBytes [0xF3]).segCheck .cs (0xFFFF + 1) 1 false ≠ none) ∧
    (met beyond [] ∧ beyond.segCheck .cs (0x10000 + 0) 1 false ≠ none) :=
  ⟨⟨rfl, rfl, rfl, by decide⟩, ⟨⟨rfl, rfl, rfl, by decide⟩, by decide⟩, ⟨rfl, rfl, rfl, by decide⟩, by decide⟩

theorem witness_StepRunsBytes :
    let s := placed [0x0F, 0x77]
    s.inputs = [] ∧ pendingEvent s = none ∧ s.pg = false ∧ (Instr.emms []).wf s.bigCode = true ∧
    ∀ k < (Instr.emms []).length, s.segCheck .cs (s.eip + BitVec.ofNat 32 k) 1 false = none ∧
      s.stopAt (s.lin .cs (s.eip + BitVec.ofNat 32 k)).toNat = none ∧
      (encode (.emms []))[k]? = some (readByte s.physMem (s.lin .cs (s.eip + BitVec.ofNat 32 k)).toNat) :=
  ⟨rfl, rfl, rfl, rfl, by decide⟩

theorem witness_InvStep : Inv (placed [0x0F, 0x77]) ∧ ∃ t, step (placed [0x0F, 0x77]) = .next t :=
  ⟨⟨by decide, by decide, by decide, by decide, by decide, by decide⟩, _, rfl⟩

/-- Shutdown without an input and with each kind of input. -/
theorem witness_ShutdownIsStuck :
    let s := { State.reset with shutdown := true }
    s.shutdown = true ∧ s.inputs = [] ∧
    ∀ i ∈ [Input.smi none, .flush, .a20m, .intrOff, .intr 0x20, .reset, .init, .nmi],
      State.shutdown { s with inputs := [some i] } = true ∧ State.inputs { s with inputs := [some i] } = [some i] :=
  ⟨rfl, rfl, fun _ _ => ⟨rfl, rfl⟩⟩

/-- CC = 000 and 100; CC = 001 with event 41, the last of the common table, and 101 with event 0; CC = 010 and 110; both
levels. -/
theorem witness_TscIncreases :
    let s := placed [0x0F, 0x77]
    let cc := fun (v : Dword) => (v.extractLsb' 6 3, v.extractLsb' 22 3)
    s.inputs = [] ∧ (∀ p u, s.fetch ≠ .ok (.instr (.wrmsr p)) u) ∧ (∃ t, step s = .next t) ∧
    cc 0x01000000 = (0, 4) ∧ cc 0x01400069 = (1, 5) ∧ cc 0x018000A9 = (2, 6) ∧
    eventDefined Config.default false ((0x01400069 : Dword).extractLsb' 0 6).toNat = true ∧
    eventDefined Config.default true ((0x01400069 : Dword).extractLsb' 16 6).toNat = true ∧
    eventDefined Config.default true ((0x018000A9 : Dword).extractLsb' 16 6).toNat = true ∧
    (protAt 3).cplNow = 3 ∧ s.cplNow ≠ 3 := by
  refine ⟨rfl, fun p u h => ?_, ⟨_, rfl⟩, rfl, rfl, rfl, rfl, rfl, rfl, rfl, by decide⟩
  have e : (placed [0x0F, 0x77]).fetch = .ok (.instr (.emms [])) (placed [0x0F, 0x77]) := rfl
  rw [e] at h
  injection h with h _
  injection h with h
  cases h

end Sys2Proof.Tests
end

section
namespace Sys2Proof.Machine

/-! # The invariant, the control registers and the counters (10_state) -/

/-! ## The fixed bits of EFLAGS, CR4 and CESR -/

theorem getLsbD_sanitizeEflags (v : Dword) (i : Nat) :
    (sanitizeEflags v).getLsbD i = (v.getLsbD i && eflagsMask.getLsbD i || (2 : Dword).getLsbD i) := by
  simp [sanitizeEflags]

/-- EFLAGS is in order when every bit that holds no flag reads as it does in 2 (10_state R23). -/
theorem eflagsOk_iff (v : Dword) :
    eflagsOk v = true ↔ ∀ i < 32, eflagsMask.getLsbD i = false → v.getLsbD i = (2 : Dword).getLsbD i := by
  rw [eflagsOk, beq_iff_eq]
  constructor
  · intro h i _ hm
    rw [h, getLsbD_sanitizeEflags, hm]
    simp
  · intro h
    have disjoint : ∀ i < 32, eflagsMask.getLsbD i = true → (2 : Dword).getLsbD i = false := by decide
    refine BitVec.eq_of_getLsbD_eq fun i hi => ?_
    rw [getLsbD_sanitizeEflags]
    cases hm : eflagsMask.getLsbD i with
    | false => simp [h i hi hm]
    | true => rw [disjoint i hi hm, Bool.and_true, Bool.or_false]

theorem eflagsOk_sanitizeEflags (v : Dword) : eflagsOk (sanitizeEflags v) = true := by
  rw [eflagsOk_iff]
  intro i _ hm
  simp [getLsbD_sanitizeEflags, hm]

/-- A write of one flag keeps the fixed bits. -/
theorem eflagsOk_setBit {v : Dword} (i : Nat) (b : Bool) (hi : eflagsMask.getLsbD i = true) (h : eflagsOk v = true) :
    eflagsOk (setBit v i b) = true := by
  rw [eflagsOk_iff] at *
  intro j hj hm
  have hlt : i < 32 := BitVec.lt_of_getLsbD hi
  have hne : j ≠ i := by
    rintro rfl
    rw [hi] at hm
    contradiction
  rw [getLsbD_setBit _ _ _ _ hlt, if_neg hne, h j hj hm]

/-- Flags cleared and flags merged in from another word keep the fixed bits. -/
theorem eflagsOk_merge {v : Dword} (g clear take : Dword)
    (hc : ∀ i < 32, eflagsMask.getLsbD i = false → clear.getLsbD i = false)
    (ht : ∀ i < 32, eflagsMask.getLsbD i = false → take.getLsbD i = false) (h : eflagsOk v = true) :
    eflagsOk ((v &&& ~~~ clear) ||| (g &&& take)) = true := by
  rw [eflagsOk_iff] at *
  intro i hi hm
  rw [BitVec.getLsbD_or, BitVec.getLsbD_and, BitVec.getLsbD_not, BitVec.getLsbD_and, hc i hi hm, ht i hi hm, h i hi hm]
  simp [hi]

theorem eflagsOk_pl0Flags {old : Dword} (gate : Dword) (h : eflagsOk old = true) :
    eflagsOk (pl0Flags old gate) = true := eflagsOk_merge gate _ _ (by decide) (by decide) h

/-- The flags of a handler: free but for the fixed bits (log 6). -/
theorem eflagsOk_entryFlags (s : State) (e : Entry) : eflagsOk (s.entryFlags e) = true := by
  unfold State.entryFlags
  dsimp only
  split
  · exact eflagsOk_sanitizeEflags _
  · exact eflagsOk_merge _ _ _ (by decide) (by decide) (eflagsOk_sanitizeEflags _)

/-- A word with the reserved bits of a mask cleared has none of them set. -/
theorem and_not_and_self {w : Nat} (v m : BitVec w) : v &&& ~~~ m &&& m = 0 := by
  refine BitVec.eq_of_getLsbD_eq fun i hi => ?_
  simp [hi]

/-- A doubleword cut out of a value without reserved bits of CESR has none either (46 R362 step 5). -/
theorem cesr_of_clear {v : Qword} (h : v &&& ~~~ cesrMask = 0) :
    ((v.setWidth 32 : Dword).setWidth 64 : Qword) &&& ~~~ cesrMask = 0 := by
  refine BitVec.eq_of_getLsbD_eq fun i hi => ?_
  have hb := congrArg (·.getLsbD i) h
  simp only [BitVec.getLsbD_and, BitVec.getLsbD_setWidth] at hb ⊢
  cases hv : v.getLsbD i with
  | false => simp
  | true => simpa [hv, hi] using fun _ => hb

theorem cesr_of_masked (v : Dword) :
    ((v &&& (cesrMask.setWidth 32 : Dword)).setWidth 64 : Qword) &&& ~~~ cesrMask = 0 := by
  refine BitVec.eq_of_getLsbD_eq fun i hi => ?_
  simp only [BitVec.getLsbD_and, BitVec.getLsbD_setWidth, BitVec.getLsbD_not]
  cases cesrMask.getLsbD i <;> simp

/-- Settles O57: both memories are empty, EFLAGS is 2, CR4 and CESR are 0, SMBASE is six times 32 KB. -/
theorem invReset : Obligations.InvReset :=
  { mem := reset_mem_wf.1
    smram := reset_mem_wf.2
    eflags := by decide
    cr4 := by decide
    cesr := by decide
    smbase := fun _ => by decide }

/-! ## What every step but WRMSR and an input keeps -/

/-- From `s` to `t` the parameters, TSC, CESR and both counters stay as they are, and the invariant is kept. -/
structure Kept (s t : State) : Prop where
  cfg : t.cfg = s.cfg
  tsc : t.tsc = s.tsc
  cesr : t.cesr = s.cesr
  ctr0 : t.ctr0 = s.ctr0
  ctr1 : t.ctr1 = s.ctr1
  inv : Inv s → Inv t

theorem Kept.refl (s : State) : Kept s s := ⟨rfl, rfl, rfl, rfl, rfl, id⟩

theorem Kept.trans {s t u : State} (h : Kept s t) (k : Kept t u) : Kept s u :=
  ⟨k.cfg.trans h.cfg, k.tsc.trans h.tsc, k.cesr.trans h.cesr, k.ctr0.trans h.ctr0, k.ctr1.trans h.ctr1, k.inv ∘ h.inv⟩

/-- The fields `Kept` is about. -/
def State.keptFields (s : State) :
    (Config × Memory × Memory) × (Dword × Dword × Dword) × Qword × Dword × BitVec 40 × BitVec 40 :=
  ((s.cfg, s.mem, s.smram), (s.eflags, s.cr4, s.smbase), s.tsc, s.cesr, s.ctr0, s.ctr1)

/-- An update of other fields, which `rfl` shows. -/
theorem Kept.of_fields {s t : State} (h : t.keptFields = s.keptFields) : Kept s t := by
  simp only [State.keptFields, Prod.mk.injEq] at h
  obtain ⟨⟨hcfg, hmem, hsmram⟩, ⟨hfl, hcr4, hbase⟩, htsc, hcesr, hctr0, hctr1⟩ := h
  refine ⟨hcfg, htsc, hcesr, hctr0, hctr1, fun i => ⟨?_, ?_, ?_, ?_, ?_, ?_⟩⟩
  · exact hmem ▸ i.mem
  · exact hsmram ▸ i.smram
  · exact hfl ▸ i.eflags
  · rw [hcr4, hcfg]
    exact i.cr4
  · rw [hcesr]
    exact i.cesr
  · rw [hcfg, hbase]
    exact i.smbase

/-- An update of EFLAGS that keeps the fixed bits. -/
theorem Kept.of_eflags (s : State) {v : Dword} (h : eflagsOk s.eflags = true → eflagsOk v = true) :
    Kept s { s with eflags := v } :=
  ⟨rfl, rfl, rfl, rfl, rfl, fun i => ⟨i.mem, i.smram, h i.eflags, i.cr4, i.cesr, i.smbase⟩⟩

/-- Bytes written to physical memory. -/
theorem setPhysMem_kept (s : State) (cs : List (Nat × Byte)) : Kept s (s.setPhysMem (writeBytes s.physMem cs)) := by
  have wf (i : Inv s) := setPhysMem_wf s (writeBytes s.physMem cs) i.mem i.smram
    (writeBytes_wf _ _ (physMem_wf s i.mem i.smram))
  rw [setPhysMem_fields]
  exact ⟨rfl, rfl, rfl, rfl, rfl, fun i => ⟨(wf i).1, (wf i).2, i.eflags, i.cr4, i.cesr, i.smbase⟩⟩

theorem PagingOnly.kept {s t : State} (h : PagingOnly s t) : Kept s t := by
  have wf (i : Inv s) := And.intro (h.mem i.mem).1 (h.smram i.smram).1
  rw [h.fields]
  exact ⟨rfl, rfl, rfl, rfl, rfl, fun i => ⟨(wf i).1, (wf i).2, i.eflags, i.cr4, i.cesr, i.smbase⟩⟩

theorem setR32_kept (s : State) (n : RegNum) (v : Dword) : Kept s (s.setR32 n v) := .of_fields rfl

theorem setEdxEax_kept (s : State) (v : Qword) : Kept s (s.setEdxEax v) := .of_fields rfl

theorem advance_kept (s : State) (n : Nat) : Kept s (s.advance n) := .of_fields rfl

theorem setMm_kept (s : State) (n : RegNum) (v : Qword) : Kept s (s.setMm n v) := .of_fields rfl

theorem drew_kept (s : State) : Kept s s.drew := .of_fields rfl

theorem begun_kept (s : State) : Kept s s.begun := .of_fields rfl

theorem setFlag_kept (s : State) (i : Nat) (b : Bool) (h : eflagsMask.getLsbD i = true) : Kept s (s.setFlag i b) :=
  .of_eflags s (eflagsOk_setBit i b h)

theorem setCompareFlags_kept (s : State) (z p c : Bool) : Kept s (s.setCompareFlags z p c) :=
  .of_eflags s fun h => eflagsOk_setBit _ _ (by decide) <| eflagsOk_setBit _ _ (by decide) <|
    eflagsOk_setBit _ _ (by decide) h

/-! ## Operations that keep -/

/-- Where the operation answers, what `Kept` names is kept from `s` on. -/
def Res.keeps {α : Type} (r : Res α) (s : State) : Prop := ∀ a t, r = .ok a t → Kept s t

theorem Res.keeps.ok {α : Type} {a : α} {s t : State} (h : Kept s t) : (Res.ok a t).keeps s := fun _ _ e => by
  cases e
  exact h

theorem Res.keeps.exn {α : Type} {e : Exn} {s : State} : (Res.exn e : Res α).keeps s :=
  fun _ _ h => by contradiction

theorem Res.keeps.stop {α : Type} {x : Stop} {s : State} : (Res.stop x : Res α).keeps s :=
  fun _ _ h => by contradiction

theorem Res.keeps.bind {α β : Type} {r : Res α} {k : α → State → Res β} {s : State} (h : r.keeps s)
    (hk : ∀ a t, (k a t).keeps t) : (r.bind k).keeps s := fun b u e => by
  obtain ⟨a, t, hr, hu⟩ := Res.bind_ok.1 e
  exact (h a t hr).trans (hk a t b u hu)

theorem Res.keeps.ite {α : Type} {c : Prop} [Decidable c] {r q : Res α} {s : State} (h : r.keeps s) (k : q.keeps s) :
    (if c then r else q).keeps s := by
  split <;> assumption

theorem Res.keeps.of_kept {α : Type} {r : Res α} {s t : State} (h : Kept s t) (k : r.keeps t) : r.keeps s :=
  fun a u e => h.trans (k a u e)

/-! ## Memory -/

theorem linAddrs_keeps {s : State} {lin : Dword} {n : Nat} {acc : Access} : (s.linAddrs lin n acc).keeps s :=
  fun _ _ h => (linAddrs_ok h).kept

theorem segAddrs_keeps {s : State} {seg : SegName} {ea : Dword} {n : Nat} {acc : Access} :
    (s.segAddrs seg ea n acc).keeps s := fun _ _ h => (segAddrs_paging h).kept

theorem operandAddrs_keeps {s : State} {seg : SegName} {ea : Dword} {n : Nat} {w : Bool} :
    (s.operandAddrs seg ea n w).keeps s := fun _ _ h => (operandAddrs_paging h).kept

theorem readPhys_keeps {s : State} {as : List Nat} : (s.readPhys as).keeps s :=
  fun _ _ h => (readPhys_ok h).1 ▸ .refl s

theorem writePhys_keeps {s : State} {cs : List (Nat × Byte)} : (s.writePhys cs).keeps s :=
  fun _ _ h => (writePhys_ok h).1 ▸ setPhysMem_kept s _

theorem srcMm_keeps {s : State} {p : List Pfx} {x : Rm} {n : Nat} : (s.srcMm p x n).keeps s :=
  fun _ _ h => (srcMm_ok h).kept

theorem src32_keeps {s : State} {p : List Pfx} {x : Rm} : (s.src32 p x).keeps s := fun _ _ h => (src32_ok h).kept

theorem src16_keeps {s : State} {p : List Pfx} {x : Rm} : (s.src16 p x).keeps s := fun _ _ h => (src16_ok h).kept

theorem store_keeps {s : State} {seg : SegName} {ea : Dword} {bs : List Byte} : (s.store seg ea bs).keeps s :=
  operandAddrs_keeps.bind fun _ _ => writePhys_keeps

theorem dstMm_keeps {s : State} {p : List Pfx} {x : Rm} {v : Qword} : (s.dstMm p x v).keeps s := by
  cases x with
  | reg r => exact .ok (setMm_kept ..)
  | mem m => exact store_keeps

theorem dst32_keeps {s : State} {p : List Pfx} {x : Rm} {v : Dword} : (s.dst32 p x v).keeps s := by
  cases x with
  | reg r => exact .ok (setR32_kept ..)
  | mem m => exact store_keeps

/-! ## Taking an exception or interrupt -/

theorem push16_keeps {s : State} {v : Word16} : (s.push16 v).keeps s :=
  segAddrs_keeps.bind fun _ _ => writePhys_keeps.bind fun _ _ => .ok (setR32_kept ..)

theorem systemRead_keeps {s : State} {lin : Dword} {n : Nat} : (s.systemRead lin n).keeps s :=
  linAddrs_keeps.bind fun _ _ => readPhys_keeps

theorem realDelivery_keeps {s : State} {vector : Byte} {savedEip : Dword} {clear : Bool} :
    (s.realDelivery vector savedEip clear).keeps s :=
  push16_keeps.bind fun _ _ => push16_keeps.bind fun _ _ => push16_keeps.bind fun _ _ =>
    systemRead_keeps.bind fun _ t => .ok <|
      ((setFlag_kept t bitIF false (by decide)).trans (setFlag_kept _ bitTF false (by decide))).trans (.of_fields rfl)

theorem pl0Delivery_keeps {s : State} {g : Gate} {c : Cause} {savedEip : Dword} :
    (s.pl0Delivery g c savedEip).keeps s :=
  .ite .exn <| linAddrs_keeps.bind fun _ _ => writePhys_keeps.bind fun _ t => .ok <|
    (Kept.of_eflags t (eflagsOk_pl0Flags g.flags)).trans (.of_fields rfl)

theorem touch_keeps {s : State} {l : List (Dword × Bool)} : (s.touch l).keeps s := fun _ _ h => (touch_ok h).kept

theorem deliveryFailed_kept (s : State) (e : Exn) : Kept s (s.deliveryFailed e) := .of_fields rfl

theorem touchAll_kept (s : State) (l : List (Dword × Bool)) : Kept s (s.touchAll l) := by
  induction l generalizing s with
  | nil => exact .refl s
  | cons x l ih =>
    unfold State.touchAll
    split
    · exact (translate_ok ‹_›).kept.trans (ih _)
    · exact (deliveryFailed_kept s _).trans (ih _)
    · exact ih s

theorem taskSwitch_kept (s : State) (e : Entry) : Kept s (s.taskSwitch e) := .of_fields rfl

theorem written_kept (s : State) (e : Entry) : Kept s (s.written e) := by
  refine (setPhysMem_kept s (entryCells s e.writes)).trans ?_
  unfold State.written
  dsimp only
  split
  · exact taskSwitch_kept ..
  · exact .refl _

theorem entered_kept (s : State) (e : Entry) : Kept s (s.entered e) :=
  (Kept.of_eflags s fun _ => eflagsOk_entryFlags s e).trans (.of_fields rfl)

theorem freeDelivery_keeps {s : State} {c : Cause} {savedEip : Dword} : (s.freeDelivery c savedEip).keeps s := by
  unfold State.freeDelivery
  split
  · exact .ok (.of_fields rfl)
  · rename_i e _
    exact touch_keeps.bind fun _ t => .of_kept (written_kept t e) <|
      touch_keeps.bind fun _ u => .ok (entered_kept u e)

theorem takenOver_kept (s : State) (c : Cause) (savedEip : Dword) : Kept s (s.takenOver c savedEip) := by
  unfold State.takenOver
  split
  · exact .of_fields rfl
  · exact (((touchAll_kept ..).trans (written_kept ..)).trans (touchAll_kept ..)).trans (entered_kept ..)

theorem deliver_keeps {s : State} {c : Cause} {savedEip : Dword} : (s.deliver c savedEip).keeps s := by
  unfold State.deliver
  split
  · exact realDelivery_keeps
  · exact realDelivery_keeps
  · refine .ite realDelivery_keeps ?_
    split
    · exact pl0Delivery_keeps
    · exact freeDelivery_keeps
  · exact freeDelivery_keeps

theorem raised_kept (s : State) (c : Cause) (savedEip : Dword) : Kept s (s.raised c savedEip) := .of_fields rfl

/-- Where the outcome is a next state, what `Kept` names is kept from `s` on. -/
def Outcome.keeps (o : Outcome) (s : State) : Prop := ∀ t, o = .next t → Kept s t

theorem Outcome.keeps.next {s t : State} (h : Kept s t) : Outcome.keeps (.next t) s := fun _ e => by
  cases e
  exact h

theorem Outcome.keeps.stop {s : State} (x : Stop) : Outcome.keeps x.outcome s := fun _ e => by
  cases x <;> contradiction

theorem Outcome.keeps.of_kept {o : Outcome} {s t : State} (h : Kept s t) (k : o.keeps t) : o.keeps s :=
  fun u e => h.trans (k u e)

theorem raise_keeps {c : Cause} {savedEip : Dword} {s : State} : Outcome.keeps (raise c savedEip s) s := by
  refine .of_kept (raised_kept s c savedEip) fun t h => ?_
  obtain h | ⟨e, -, rfl⟩ := raise_next h
  · exact deliver_keeps _ _ h
  · exact (deliveryFailed_kept _ e).trans (takenOver_kept ..)

theorem takeException_keeps {e : Exn} {s : State} : Outcome.keeps (takeException e s) s := raise_keeps

theorem raiseSoftware_keeps {c : Cause} {savedEip : Dword} {s : State} :
    Outcome.keeps (raiseSoftware c savedEip s) s := fun t h => by
  obtain h | ⟨e, -, h⟩ := raiseSoftware_next h
  · exact (raised_kept s c savedEip).trans (deliver_keeps _ _ h)
  · exact takeException_keeps t h

/-- An instruction keeps what its operation keeps, for the exception it may raise instead does. -/
theorem Res.keeps.finish {r : Res Unit} {s : State} (h : r.keeps s) : Outcome.keeps (r.finish s) s := by
  cases r with
  | ok a t => exact .next (h a t rfl)
  | exn e => exact takeException_keeps
  | stop x => exact .stop x

/-! ## The instructions -/

/-- The operation of an instruction without operands decides (46 R350 to R363). -/
theorem plainFrame_keeps {p : List Pfx} {op : State → Res Unit} {s : State} (h : (op s).keeps s) :
    Outcome.keeps (plainFrame p op s) s :=
  (Res.keeps.ite .exn <| h.bind fun _ _ => .ok (advance_kept ..)).finish

theorem mmxFrame_keeps {p : List Pfx} {tags : Word16} {len : Nat} {op : State → Res Unit} {s : State}
    (h : (op s).keeps s) : Outcome.keeps (mmxFrame p tags len op s) s := by
  refine Res.keeps.finish ?_
  split
  · exact .exn
  · exact h.bind fun _ _ => .ok (.of_fields rfl)

theorem combine_keeps {f : Qword → Qword → Qword} {n : Nat} {p : List Pfx} {d : RegNum} {x : Rm} {s : State} :
    (combine f n p d x s).keeps s :=
  srcMm_keeps.bind fun _ _ => .ok (setMm_kept ..)

theorem mmxOp_keeps {f : Qword → Qword → Qword} {p : List Pfx} {d : RegNum} {x : Rm} {s : State} :
    Outcome.keeps (mmxOp f p d x s) s := mmxFrame_keeps combine_keeps

theorem mmxOp32_keeps {f : Qword → Qword → Qword} {p : List Pfx} {d : RegNum} {x : Rm} {s : State} :
    Outcome.keeps (mmxOp32 f p d x s) s := mmxFrame_keeps combine_keeps

theorem mmxShift_keeps {f : Qword → Nat → Qword} {p : List Pfx} {d : RegNum} {x : Rm} {s : State} :
    Outcome.keeps (mmxShift f p d x s) s := mmxOp_keeps

theorem mmxShiftImm_keeps {f : Qword → Nat → Qword} {p : List Pfx} {d : RegNum} {n : Byte} {s : State} :
    Outcome.keeps (mmxShiftImm f p d n s) s := mmxFrame_keeps (.ok (setMm_kept ..))

theorem execEmms_keeps {p : List Pfx} {s : State} : Outcome.keeps (execEmms p s) s := mmxFrame_keeps (.ok (.refl s))

theorem execMovdLoad_keeps {p : List Pfx} {d : RegNum} {x : Rm} {s : State} :
    Outcome.keeps (execMovdLoad p d x s) s :=
  mmxFrame_keeps <| src32_keeps.bind fun _ _ => .ok (setMm_kept ..)

theorem execMovdStore_keeps {p : List Pfx} {d : RegNum} {x : Rm} {s : State} :
    Outcome.keeps (execMovdStore p d x s) s := mmxFrame_keeps dst32_keeps

theorem execMovqStore_keeps {p : List Pfx} {d : RegNum} {x : Rm} {s : State} :
    Outcome.keeps (execMovqStore p d x s) s := mmxFrame_keeps dstMm_keeps

theorem cmov_keeps {cc : Nat} {p : List Pfx} {d : RegNum} {x : Rm} {s : State} :
    Outcome.keeps (cmov cc p d x s) s :=
  have move : (cmovMove cc p d x s).keeps s := .ite
    (src32_keeps.bind fun _ _ => .ok (setR32_kept ..)) (src16_keeps.bind fun _ _ => .ok (setR32_kept ..))
  (Res.keeps.ite .exn <| move.bind fun _ _ => .ok (advance_kept ..)).finish

theorem fpuFrame_keeps {p : List Pfx} {op : State → State} {s : State} (h : ∀ t, Kept t (op t)) :
    Outcome.keeps (fpuFrame p op s) s :=
  have pending : s.pendingFirst.keeps s := .ite (.ite .exn (.ok (drew_kept s))) (.ok (.refl s))
  (Res.keeps.ite .exn <| .ite .exn <| pending.bind fun _ t => .ok ((h t).trans (advance_kept ..))).finish

theorem freeCodes_kept (s : State) : Kept s s.freeCodes := .of_fields rfl

theorem fcmovMove_kept (cond : Bool) (i : RegNum) (s : State) : Kept s (fcmovMove cond i s) := by
  unfold fcmovMove
  dsimp only
  split
  · refine Kept.trans ?_ (freeCodes_kept _)
    split <;> exact .of_fields rfl
  · refine Kept.trans ?_ (freeCodes_kept _)
    split <;> exact .of_fields rfl

theorem fcmov_keeps {cc : Nat} {p : List Pfx} {i : RegNum} {s : State} : Outcome.keeps (fcmov cc p i s) s :=
  fpuFrame_keeps fun _ => fcmovMove_kept ..

theorem popIf_kept (s : State) (pop : Bool) : Kept s (s.popIf pop) := by
  cases pop <;> exact .of_fields rfl

/-- A comparison of the FPU writes a status word, then ZF, PF and CF, then perhaps pops (47 R402). -/
theorem compared_kept {s t : State} (h : t.keptFields = s.keptFields) (z p c pop : Bool) :
    Kept s ((t.setCompareFlags z p c).popIf pop) :=
  ((Kept.of_fields h).trans (setCompareFlags_kept ..)).trans (popIf_kept ..)

theorem compareInvalid_kept (pop : Bool) (s : State) : Kept s (compareInvalid pop s) := by
  unfold compareInvalid
  dsimp only
  split
  · exact compared_kept (by rfl) ..
  · exact Kept.trans (.of_fields (by rfl)) (popIf_kept ..)

theorem compareTop_kept (quiet pop : Bool) (i : RegNum) (s : State) : Kept s (compareTop quiet pop i s) := by
  unfold compareTop
  dsimp only
  split
  · exact compared_kept (by rfl) ..
  split
  · exact compareInvalid_kept ..
  split
  · split
    · exact compared_kept (by rfl) ..
    · exact compareInvalid_kept ..
  split
  · exact compared_kept (by rfl) ..
  split <;> exact compared_kept (by rfl) ..

theorem compare_keeps {quiet pop : Bool} {p : List Pfx} {i : RegNum} {s : State} :
    Outcome.keeps (fpuFrame p (compareTop quiet pop i) s) s := fpuFrame_keeps (compareTop_kept quiet pop i)

theorem execCmpxchg8b_keeps {p : List Pfx} {x : Rm} {s : State} : Outcome.keeps (execCmpxchg8b p x s) s := by
  refine Res.keeps.finish ?_
  cases x with
  | reg r => exact .exn
  | mem m =>
    have exchange : (compareExchange p m s).keeps s :=
      operandAddrs_keeps.bind fun _ _ => readPhys_keeps.bind fun _ t => .ite
        (.of_kept (setFlag_kept t bitZF true (by decide)) writePhys_keeps)
        (.ok ((setFlag_kept t bitZF false (by decide)).trans (setEdxEax_kept ..)))
    exact exchange.bind fun _ _ => .ok (advance_kept ..)

theorem cpuidLeaf_kept (s : State) : Kept s (cpuidLeaf s) := by
  unfold cpuidLeaf
  dsimp only
  split
  · exact .of_fields rfl
  split
  · exact .of_fields rfl
  split <;> exact .of_fields rfl

theorem execCpuid_keeps {p : List Pfx} {s : State} : Outcome.keeps (execCpuid p s) s :=
  plainFrame_keeps (.ok (cpuidLeaf_kept s))

theorem execRdtsc_keeps {p : List Pfx} {s : State} : Outcome.keeps (execRdtsc p s) s :=
  plainFrame_keeps (.ite .exn (.ok (setEdxEax_kept ..)))

theorem readMsr_keeps {s : State} : (readMsr s).keeps s := by
  unfold readMsr
  split
  · exact .ok (.refl s)
  · exact .ok (drew_kept s)
  · exact .ok (.refl s)
  · exact .ok (.refl s)
  · exact .stop

theorem execRdmsr_keeps {p : List Pfx} {s : State} : Outcome.keeps (execRdmsr p s) s :=
  plainFrame_keeps <| .ite .exn <| readMsr_keeps.bind fun _ _ => .ok (setEdxEax_kept ..)

theorem execRdpmc_keeps {p : List Pfx} {s : State} : Outcome.keeps (execRdpmc p s) s :=
  plainFrame_keeps <| .ite .exn <| .ite .exn <| .ite .exn <| .ok (setEdxEax_kept ..)

theorem execUd2_keeps {p : List Pfx} {s : State} : Outcome.keeps (execUd2 p s) s := plainFrame_keeps .exn

/-! ## Entering and leaving SMM -/

theorem smmRegs_kept (s : State) (halted : Bool) (image : SmmImage) : Kept s (s.smmRegs halted image) :=
  (Kept.of_eflags s (v := 2) fun _ => by decide).trans (.of_fields rfl)

theorem smiEntry_keeps {s : State} : (smiEntry s).keeps s := by
  unfold smiEntry
  exact .of_kept (t := { s.drew with inSmm := true }) (.of_fields rfl) <| writePhys_keeps.bind fun _ _ =>
    .ok (smmRegs_kept ..)

/-- Shutdown out of SMM leaves free registers, of which EFLAGS and CR4 read their fixed bits as always (log 14). -/
theorem rsmShutdown_kept (s : State) : Kept s s.rsmShutdown :=
  ⟨rfl, rfl, rfl, rfl, rfl, fun i =>
    ⟨i.mem, i.smram, eflagsOk_sanitizeEflags _, and_not_and_self _ _, i.cesr, i.smbase⟩⟩

/-- The shutdown conditions that RSM tests are those that would break the invariant (46 R366). -/
theorem rsmBad_eq_false {s : State} {bs : List Byte} (h : s.rsmBad bs = false) :
    s.smmImage.cr4 &&& cr4Reserved s.cfg = 0 ∧
      (smbaseAlignCheck s.cfg = true → (s.newSmbase bs).toNat % 0x8000 = 0) := by
  simp only [State.rsmBad, Bool.or_eq_false_iff, bne_eq_false_iff_eq, Bool.and_eq_false_imp] at h
  obtain ⟨⟨hcr4, -⟩, hbase⟩ := h
  exact ⟨hcr4, hbase⟩

theorem rsmRestore_kept {s : State} {bs : List Byte} (h : s.rsmBad bs = false) (eip : Dword) (halted : Bool) :
    Kept s (s.rsmRestore bs eip halted) := by
  obtain ⟨hcr4, hbase⟩ := rsmBad_eq_false h
  exact ⟨rfl, rfl, rfl, rfl, rfl, fun i => ⟨i.mem, i.smram, eflagsOk_sanitizeEflags _, hcr4, i.cesr, hbase⟩⟩

theorem rsmWith_keeps {bs : List Byte} {s : State} : (rsmWith bs s).keeps s := by
  unfold rsmWith
  split
  · exact .ok (rsmShutdown_kept s)
  · refine .ite .stop ?_
    split
    · exact .ok (rsmRestore_kept (by simpa using ‹¬ s.rsmBad bs = true›) ..)
    · exact .stop
    · exact .stop

theorem execRsm_keeps {p : List Pfx} {s : State} : Outcome.keeps (execRsm p s) s :=
  (Res.keeps.ite .exn <| .ite .exn <| readPhys_keeps.bind fun _ _ => rsmWith_keeps).finish

/-! ## Every instruction -/

/-- Every instruction but WRMSR keeps what `Kept` names. -/
theorem exec_keeps {i : Instr} {s : State} (h : ∀ p, i ≠ .wrmsr p) : Outcome.keeps (exec i s) s := by
  cases i with
  | wrmsr p => exact absurd rfl (h p)
  | ud2 => exact execUd2_keeps
  | rdtsc => exact execRdtsc_keeps
  | rdmsr => exact execRdmsr_keeps
  | rdpmc => exact execRdpmc_keeps
  | cpuid => exact execCpuid_keeps
  | rsm => exact execRsm_keeps
  | cmpxchg8b => exact execCmpxchg8b_keeps
  | emms => exact execEmms_keeps
  | movdLoad => exact execMovdLoad_keeps
  | movdStore => exact execMovdStore_keeps
  | movqStore => exact execMovqStore_keeps
  | cmovo | cmovno | cmovb | cmovae | cmove | cmovne | cmovbe | cmova | cmovs | cmovns | cmovp | cmovnp | cmovl | cmovge
  | cmovle | cmovg => exact cmov_keeps
  | fcmovb | fcmove | fcmovbe | fcmovu | fcmovnb | fcmovne | fcmovnbe | fcmovnu => exact fcmov_keeps
  | fucomi | fcomi | fucomip | fcomip => exact compare_keeps
  | punpcklbw | punpcklwd | punpckldq => exact mmxOp32_keeps
  | psrlwImm | psrawImm | psllwImm | psrldImm | psradImm | pslldImm | psrlqImm | psllqImm => exact mmxShiftImm_keeps
  | psrlw | psrld | psrlq | psraw | psrad | psllw | pslld | psllq => exact mmxShift_keeps
  | packsswb | packuswb | packssdw | punpckhbw | punpckhwd | punpckhdq | pcmpgtb | pcmpgtw | pcmpgtd | pcmpeqb | pcmpeqw
  | pcmpeqd | movqLoad | pand | pandn | por | pxor | pmullw | pmulhw | pmaddwd | psubb | psubw | psubd | psubsb | psubsw
  | psubusb | psubusw | paddb | paddw | paddd | paddsb | paddsw | paddusb | paddusw => exact mmxOp_keeps

/-! ## The base instructions -/

theorem execCli_keeps {len : Nat} {s : State} : Outcome.keeps (execCli len s) s := by
  unfold execCli
  split
  · exact .next ((setFlag_kept s bitVIF _ (by decide)).trans (advance_kept ..))
  split
  · exact takeException_keeps
  · exact .next ((setFlag_kept s bitIF _ (by decide)).trans (advance_kept ..))

theorem execSti_keeps {len : Nat} {s : State} : Outcome.keeps (execSti len s) s := by
  unfold execSti
  split
  · split
    · exact raise_keeps
    · exact .next ((setFlag_kept s bitVIF _ (by decide)).trans (advance_kept ..))
  split
  · exact takeException_keeps
  · exact .next ((setFlag_kept s bitIF _ (by decide)).trans (advance_kept ..))

theorem execHlt_keeps {len : Nat} {s : State} : Outcome.keeps (execHlt len s) s := by
  unfold execHlt
  split
  · exact takeException_keeps
  · exact .next (.of_fields rfl)

theorem redirectionBit_keeps {s : State} {n : Byte} : (s.redirectionBit n).keeps s :=
  systemRead_keeps.bind fun _ _ => systemRead_keeps.bind fun _ t => .ok (.refl t)

theorem execInt_keeps {n : Byte} {len : Nat} {s : State} : Outcome.keeps (execInt n len s) s := by
  unfold execInt
  dsimp only
  split
  · split
    · exact takeException_keeps
    split
    · split
      · exact .of_kept (redirectionBit_keeps _ _ ‹_›) raiseSoftware_keeps
      · exact .of_kept (redirectionBit_keeps _ _ ‹_›) raiseSoftware_keeps
      · exact takeException_keeps
      · exact .stop _
    · exact raiseSoftware_keeps
  · exact raiseSoftware_keeps

theorem execFlagsOp_keeps {op : Byte} {s : State} : Outcome.keeps (execFlagsOp op s) s := by
  unfold execFlagsOp
  split
  · exact takeException_keeps
  · exact fun _ h => by contradiction

theorem atCpl0_keeps {len : Nat} {op : State → Res Unit} {s : State} (h : (op s).keeps s) :
    Outcome.keeps (atCpl0 len op s) s :=
  (Res.keeps.ite .exn <| h.bind fun _ _ => .ok (advance_kept ..)).finish

theorem moveToCr3_keeps {r : RegNum} {s : State} : (moveToCr3 r s).keeps s := .ok (.of_fields rfl)

/-- MOV CR4 writes no reserved bit (10_state R39). -/
theorem moveToCr4_keeps {r : RegNum} {s : State} : (moveToCr4 r s).keeps s := by
  unfold moveToCr4
  split
  · exact .exn
  · rename_i h
    exact .ite .stop <| .ok
      ⟨rfl, rfl, rfl, rfl, rfl, fun i => ⟨i.mem, i.smram, i.eflags, Decidable.not_not.1 h, i.cesr, i.smbase⟩⟩

theorem moveToCr0_keeps {r : RegNum} {s : State} : (moveToCr0 r s).keeps s :=
  .ite .exn <| .ite .stop <| .ok (.of_fields rfl)

theorem debugMove_keeps {n : RegNum} {len : Nat} {op : State → State} {s : State} (h : Kept s (op s)) :
    Outcome.keeps (debugMove n len op s) s := by
  unfold debugMove
  split
  · exact takeException_keeps
  · exact atCpl0_keeps (.ok h)

theorem execBase_keeps {p : List Pfx} {b : BaseOp} {len : Nat} {s : State} : Outcome.keeps (execBase p b len s) s := by
  unfold execBase
  split
  · exact takeException_keeps
  cases b with
  | cli => exact execCli_keeps
  | sti => exact execSti_keeps
  | hlt => exact execHlt_keeps
  | int n => exact execInt_keeps
  | movToCr0 r => exact atCpl0_keeps moveToCr0_keeps
  | movToCr2 r => exact atCpl0_keeps (.ok (.of_fields rfl))
  | movToCr3 r => exact atCpl0_keeps moveToCr3_keeps
  | movToCr4 r => exact atCpl0_keeps moveToCr4_keeps
  | movFromCr0 r | movFromCr2 r | movFromCr3 r | movFromCr4 r => exact atCpl0_keeps (.ok (setR32_kept ..))
  | movToDr n r => exact debugMove_keeps (.of_fields rfl)
  | movFromDr n r => exact debugMove_keeps (setR32_kept ..)
  | flagsOp op => exact execFlagsOp_keeps

/-! ## The boundary -/

theorem runDecoded_keeps {d : Decoded} {s : State} (h : ∀ p, d ≠ .instr (.wrmsr p)) :
    Outcome.keeps (runDecoded d s) s := by
  cases d with
  | instr i => exact exec_keeps fun p e => h p (congrArg Decoded.instr e)
  | base p b len => exact execBase_keeps
  | invalid => exact takeException_keeps
  | outside op => exact fun _ h => by contradiction
  | needMore => exact takeException_keeps

/-- An instruction that is not WRMSR, from its fetch on. -/
theorem fetchRun_keeps {s : State} (h : ∀ p u, s.fetch ≠ .ok (.instr (.wrmsr p)) u) :
    Outcome.keeps (fetchRun s) s := by
  unfold fetchRun
  split
  · rename_i d t hf
    refine .of_kept ((fetch_ok hf).kept.trans (begun_kept t)) (runDecoded_keeps ?_)
    rintro p rfl
    exact h p t hf
  · exact takeException_keeps
  · exact .stop _

/-- Every event keeps what `Kept` names. -/
theorem pendingEvent_keeps {s : State} {o : Outcome} (h : pendingEvent s = some o) : o.keeps s := by
  have raisedFrom {c : Cause} {a : Dword} {t : State} (k : Kept s t) : Outcome.keeps (raise c a t) s :=
    .of_kept k raise_keeps
  unfold pendingEvent at h
  split at h
  · obtain rfl := Option.some.inj h
    exact smiEntry_keeps.finish
  split at h
  · obtain rfl := Option.some.inj h
    exact .next (.refl s)
  split at h
  · obtain rfl := Option.some.inj h
    exact raise_keeps
  split at h
  · obtain rfl := Option.some.inj h
    exact raisedFrom (.of_fields rfl)
  split at h
  · split at h
    · obtain rfl := Option.some.inj h
      exact raise_keeps
    · obtain rfl := Option.some.inj h
      exact raisedFrom (.of_fields rfl)
  split at h
  · obtain rfl := Option.some.inj h
    exact .next (.refl s)
  · contradiction

/-- What stands between two boundaries goes on to `u`, and then time passes. -/
theorem ticked_next {s t : State} {o : Outcome} (h : ticked s o = .next t) : ∃ u, o = .next u ∧ t = tick s u := by
  cases o with
  | next u =>
    cases h
    exact ⟨u, rfl, rfl⟩
  | fault f => contradiction
  | refused r => contradiction

/-- A boundary that does not run WRMSR keeps what `Kept` names up to the passing of time. -/
theorem boundary_kept {s t : State} (hw : ∀ p u, s.fetch ≠ .ok (.instr (.wrmsr p)) u) (h : boundary s = .next t) :
    ∃ u, Kept s u ∧ t = tick s u := by
  obtain ⟨u, ho, rfl⟩ := ticked_next h
  refine ⟨u, ?_, rfl⟩
  split at ho
  · exact pendingEvent_keeps ‹_› u ho
  · exact fetchRun_keeps hw u ho

/-! ## The invariant over a step -/

/-- An operation that goes on answered, or raised an exception that was taken. -/
theorem Res.finish_next {r : Res Unit} {s t : State} (h : r.finish s = .next t) :
    r = .ok () t ∨ ∃ e, takeException e s = .next t := by
  cases r with
  | ok a u =>
    cases h
    exact .inl rfl
  | exn e => exact .inr ⟨e, h⟩
  | stop x => cases x <;> contradiction

/-- WRMSR writes no reserved bit of CESR (46 R362 step 5); TSC and the counters are free. -/
theorem writeMsr_inv {s t : State} {v : Qword} {u : Unit} (i : Inv s) (h : writeMsr s v = .ok u t) : Inv t := by
  unfold writeMsr at h
  split at h
  · cases h
    exact ⟨i.mem, i.smram, i.eflags, i.cr4, i.cesr, i.smbase⟩
  · split at h
    · cases h
      exact ⟨i.mem, i.smram, i.eflags, i.cr4, cesr_of_clear ‹_›, i.smbase⟩
    · contradiction
  · cases h
    exact ⟨i.mem, i.smram, i.eflags, i.cr4, i.cesr, i.smbase⟩
  · cases h
    exact ⟨i.mem, i.smram, i.eflags, i.cr4, i.cesr, i.smbase⟩
  · contradiction

theorem execWrmsr_inv {p : List Pfx} {s t : State} (i : Inv s) (h : execWrmsr p s = .next t) : Inv t := by
  obtain h | ⟨e, h⟩ := Res.finish_next h
  · split at h
    · contradiction
    obtain ⟨_, u, hu, h⟩ := Res.bind_ok.1 h
    cases h
    dsimp only at hu
    split at hu
    · contradiction
    · exact (advance_kept u _).inv (writeMsr_inv i hu)
  · exact (takeException_keeps t h).inv i

theorem fetchRun_inv {s t : State} (i : Inv s) (h : fetchRun s = .next t) : Inv t := by
  by_cases hw : ∃ p u, s.fetch = .ok (.instr (.wrmsr p)) u
  · obtain ⟨p, u, hf⟩ := hw
    rw [fetchRun_instr hf] at h
    exact execWrmsr_inv (((fetch_ok hf).kept.trans (begun_kept u)).inv i) h
  · exact (fetchRun_keeps (fun p u hf => hw ⟨p, u, hf⟩) t h).inv i

theorem tick_inv (s : State) {t : State} (i : Inv t) : Inv (tick s t) :=
  ⟨i.mem, i.smram, i.eflags, i.cr4, i.cesr, i.smbase⟩

theorem boundary_inv {s t : State} (i : Inv s) (h : boundary s = .next t) : Inv t := by
  obtain ⟨u, ho, rfl⟩ := ticked_next h
  refine tick_inv s ?_
  split at ho
  · exact (pendingEvent_keeps ‹_› u ho).inv i
  · exact fetchRun_inv i ho

theorem resetBy_smbase (s : State) : s.resetBy.smbase = 0x00030000 := rfl

/-- RESET# masks the reserved bits of what `ResetState` holds; SMBASE is 30000h (70_reset R601, 10_state R51). -/
theorem resetBy_inv {s : State} (i : Inv s) : Inv s.resetBy :=
  ⟨i.mem, i.smram, eflagsOk_sanitizeEflags _, and_not_and_self _ _, cesr_of_masked _, fun _ => resetBy_smbase s ▸ rfl⟩

theorem initBy_inv {s : State} (i : Inv s) : Inv s.initBy :=
  ⟨i.mem, i.smram, eflagsOk_sanitizeEflags _, and_not_and_self _ _, i.cesr, i.smbase⟩

theorem absorb_inv {s : State} (i : Inv s) (x : Input) : Inv (s.absorb x) := by
  have same {t : State} (h : t.keptFields = s.keptFields) : Inv t := (Kept.of_fields h).inv i
  cases x with
  | reset => exact resetBy_inv i
  | init =>
    unfold State.absorb
    dsimp only
    split
    · exact i
    · exact initBy_inv i
  | smi io =>
    unfold State.absorb
    dsimp only
    split
    · exact i
    split <;> exact same rfl
  | nmi | intr v | intrOff | flush | a20m => exact same rfl

/-- Settles O56: an input keeps the invariant, and so does the boundary, by an event, by WRMSR or by any other
instruction. -/
theorem invStep : Obligations.InvStep := by
  intro s t i h
  have rest (l : List (Option Input)) : Inv { s with inputs := l } := (Kept.of_fields (by rfl)).inv i
  unfold step at h
  split at h
  · exact boundary_inv i h
  · exact boundary_inv (rest _) h
  · cases h
    exact resetBy_inv (rest _)
  · exact boundary_inv (absorb_inv (rest _) _) h

/-! ## The counters over a step -/

/-- When a counter stands still (10_state R46, 60 R591). -/
theorem counterAfter_stands {c : Config} {second : Bool} {cc : BitVec 3} {event : BitVec 6} {before after : BitVec 2}
    {v fresh : BitVec 40} (defined : ccEnabled cc = true → eventDefined c second event.toNat = true)
    (hb : ccCounts cc before = false) (ha : ccCounts cc after = false) :
    counterAfter c second cc event before after v fresh = v := by
  unfold counterAfter
  cases he : ccEnabled cc with
  | false => simp [hb, ha]
  | true => simp [hb, ha, defined he]

/-- CC = 000 and 100 never count (10_state R46). -/
theorem ccCounts_off {cc : BitVec 3} (h : cc = 0 ∨ cc = 4) (cpl : BitVec 2) :
    ccEnabled cc = false ∧ ccCounts cc cpl = false := by
  obtain rfl | rfl := h <;> exact ⟨rfl, rfl⟩

/-- CC = 001 and 101 do not count at CPL 3 (10_state R46). -/
theorem ccCounts_below3 {cc : BitVec 3} (h : cc = 1 ∨ cc = 5) {cpl : BitVec 2} (h3 : cpl = 3) :
    ccCounts cc cpl = false := by
  subst h3
  obtain rfl | rfl := h <;> rfl

/-- CC = 010 and 110 count at CPL 3 only (10_state R46). -/
theorem ccCounts_only3 {cc : BitVec 3} (h : cc = 2 ∨ cc = 6) {cpl : BitVec 2} (h3 : cpl ≠ 3) :
    ccCounts cc cpl = false := by
  obtain rfl | rfl := h <;> exact beq_false_of_ne h3

/-- TSC grows by 1 and a free doubleword (log 32). -/
theorem tick_tsc (s t : State) : (tick s t).tsc = t.tsc + BitVec.ofNat 64 ((t.free 32).toNat + 1) := by
  rw [BitVec.ofNat_add, ← BitVec.add_assoc, BitVec.ofNat_toNat]
  rfl

/-- The three cases in which 10_state R46 and 60 R591 let a counter stand still. -/
theorem counterAfter_cases (c : Config) (second : Bool) (cc : BitVec 3) (event : BitVec 6) (before after : BitVec 2)
    (v fresh : BitVec 40) :
    let w := counterAfter c second cc event before after v fresh
    let described := eventDefined c second event.toNat = true
    (cc = 0 ∨ cc = 4 → w = v) ∧ (cc = 1 ∨ cc = 5 → described → before = 3 → after = 3 → w = v) ∧
      (cc = 2 ∨ cc = 6 → described → before ≠ 3 → after ≠ 3 → w = v) := by
  refine ⟨fun off => ?_, fun low hd hb ha => ?_, fun only hd hb ha => ?_⟩
  · obtain ⟨disabled, hb⟩ := ccCounts_off off before
    exact counterAfter_stands (by simp [disabled]) hb (ccCounts_off off after).2
  · exact counterAfter_stands (fun _ => hd) (ccCounts_below3 low hb) (ccCounts_below3 low ha)
  · exact counterAfter_stands (fun _ => hd) (ccCounts_only3 only hb) (ccCounts_only3 only ha)

/-- Settles O60: what stands before the passing of time keeps TSC, CESR and the counters, so that `tick` alone moves
them. -/
theorem tscIncreases : Obligations.TscIncreases := by
  intro s t hin hw h
  unfold step at h
  rw [hin] at h
  obtain ⟨u, k, rfl⟩ := boundary_kept hw h
  refine ⟨⟨(u.free 32).toNat, BitVec.isLt _, by rw [tick_tsc, k.tsc]⟩, fun c hc => ?_⟩
  simp only [List.mem_cons, List.not_mem_nil, or_false] at hc
  obtain rfl | rfl := hc
  · simp only [tick, k.cfg, k.cesr, k.ctr0]
    exact counterAfter_cases ..
  · simp only [tick, k.cfg, k.cesr, k.ctr1]
    exact counterAfter_cases ..

/-! ## The moves of the control and debug registers -/

/-! Without LOCK (30_encoding R162) each move is its operation behind `atCpl0` or `debugMove`. -/

section
variable (n r : RegNum) (len : Nat) (s : State)

@[simp] theorem execBase_movToCr0 : execBase [] (.movToCr0 r) len s = atCpl0 len (moveToCr0 r) s := rfl
@[simp] theorem execBase_movFromCr0 :
    execBase [] (.movFromCr0 r) len s = atCpl0 len (fun t => .ok () (t.setR32 r t.cr0)) s := rfl
@[simp] theorem execBase_movToCr2 :
    execBase [] (.movToCr2 r) len s = atCpl0 len (fun t => .ok () { t with cr2 := t.r32 r }) s := rfl
@[simp] theorem execBase_movFromCr2 :
    execBase [] (.movFromCr2 r) len s = atCpl0 len (fun t => .ok () (t.setR32 r t.cr2)) s := rfl
@[simp] theorem execBase_movToCr3 : execBase [] (.movToCr3 r) len s = atCpl0 len (moveToCr3 r) s := rfl
@[simp] theorem execBase_movFromCr3 :
    execBase [] (.movFromCr3 r) len s = atCpl0 len (fun t => .ok () (t.setR32 r t.cr3)) s := rfl
@[simp] theorem execBase_movToCr4 : execBase [] (.movToCr4 r) len s = atCpl0 len (moveToCr4 r) s := rfl
@[simp] theorem execBase_movFromCr4 :
    execBase [] (.movFromCr4 r) len s = atCpl0 len (fun t => .ok () (t.setR32 r t.cr4)) s := rfl
@[simp] theorem execBase_movToDr :
    execBase [] (.movToDr n r) len s = debugMove n len (fun t => { t with dr := t.dr.put n (t.r32 r) }) s := rfl
@[simp] theorem execBase_movFromDr :
    execBase [] (.movFromDr n r) len s = debugMove n len (fun t => t.setR32 r (t.dr.get n)) s := rfl

end

theorem atCpl0_denied {s : State} (h : s.cplNow ≠ 0) (len : Nat) (op : State → Res Unit) :
    atCpl0 len op s = takeException .gp s := by
  rw [atCpl0, if_pos (bne_iff_ne.2 h), Res.finish_exn]

/-- At CPL 0 the operation runs (10_state R39). -/
theorem atCpl0_runs {s t : State} {op : State → Res Unit} (h : s.cplNow = 0) (len : Nat) (ho : op s = .ok () t) :
    atCpl0 len op s = .next (t.advance len) := by
  simp [atCpl0, h, ho]

theorem atCpl0_stop {s : State} {op : State → Res Unit} {x : Stop} (h : s.cplNow = 0) (len : Nat)
    (ho : op s = .stop x) : atCpl0 len op s = x.outcome := by
  simp [atCpl0, h, ho, Res.finish]

/-- An operation that raises #GP(0) at CPL 0 raises it at every CPL. -/
theorem atCpl0_gp {s : State} {op : State → Res Unit} (len : Nat) (ho : op s = .exn .gp) :
    atCpl0 len op s = takeException .gp s := by
  simp [atCpl0, ho]

theorem moveToCr4_gp {r : RegNum} {s : State} (h : s.r32 r &&& cr4Reserved s.cfg ≠ 0) : moveToCr4 r s = .exn .gp :=
  if_pos h

theorem moveToCr4_ok {r : RegNum} {s : State} (h : s.r32 r &&& cr4Reserved s.cfg = 0)
    (k : s.inSmm = false ∨ (s.r32 r).getLsbD 5 = false ∨ s.pae = true) :
    moveToCr4 r s = .ok () { s with cr4 := s.r32 r } := by
  rw [moveToCr4, if_neg (Decidable.not_not.2 h), if_neg]
  obtain k | k | k := k <;> rw [k] <;> simp

theorem moveToCr4_refused {r : RegNum} {s : State} (h : s.r32 r &&& cr4Reserved s.cfg = 0) (hs : s.inSmm = true)
    (hv : (s.r32 r).getLsbD 5 = true) (hp : s.pae = false) : moveToCr4 r s = .stop (.refused .paeInSmm) := by
  simp [moveToCr4, h, hs, hv, hp]

/-- What MOV CR0 refuses with #GP(0) (10_state R35, log 63). -/
theorem badCr0_iff (v : Dword) :
    (v &&& cr0Reserved ≠ 0 || cr0Illegal v) = true ↔
      v &&& cr0Reserved ≠ 0 ∨ (v.getLsbD 31 = true ∧ v.getLsbD 0 = false) ∨
        (v.getLsbD 29 = true ∧ v.getLsbD 30 = false) := by
  simp [cr0Illegal]

theorem moveToCr0_gp {r : RegNum} {s : State} (h : (s.r32 r &&& cr0Reserved ≠ 0 || cr0Illegal (s.r32 r)) = true) :
    moveToCr0 r s = .exn .gp := if_pos h

theorem moveToCr0_ok {r : RegNum} {s : State} (h : ¬ (s.r32 r &&& cr0Reserved ≠ 0 || cr0Illegal (s.r32 r)) = true)
    (k : s.inSmm = false ∨ (s.r32 r).getLsbD 31 = false ∨ s.pg = true ∨ s.pae = false) :
    moveToCr0 r s = .ok () { s with cr0 := s.r32 r, cpl := 0 } := by
  unfold moveToCr0
  dsimp only
  rw [if_neg h, if_neg]
  obtain k | k | k | k := k <;> rw [k] <;> simp

theorem moveToCr0_refused {r : RegNum} {s : State}
    (h : ¬ (s.r32 r &&& cr0Reserved ≠ 0 || cr0Illegal (s.r32 r)) = true) (hs : s.inSmm = true)
    (hv : (s.r32 r).getLsbD 31 = true) (hg : s.pg = false) (hp : s.pae = true) :
    moveToCr0 r s = .stop (.refused .paeInSmm) := by
  unfold moveToCr0
  dsimp only
  rw [if_neg h, if_pos]
  simp [hs, hv, hg, hp]

/-- The walks a load of CR3 leaves (20_memory R119). -/
theorem mem_flushTlb (s : State) (e : TlbEntry) : e ∈ s.flushTlb.tlb ↔ e ∈ s.tlb ∧ s.pge = true ∧ e.global = true := by
  cases h : s.pge <;> simp [State.flushTlb, h]

/-- DR4 and DR5 under CR4.DE (10_state R38). -/
theorem debugMove_ud {n : RegNum} {s : State} (hd : s.de = true) (hn : drAliased n = true) (len : Nat)
    (op : State → State) : debugMove n len op s = takeException .ud s := by
  simp [debugMove, hd, hn]

theorem debugMove_allowed {n : RegNum} {s : State} (h : s.de = false ∨ drAliased n = false) (len : Nat)
    (op : State → State) : debugMove n len op s = atCpl0 len (fun t => .ok () (op t)) s := by
  obtain h | h := h <;> simp [debugMove, h]

/-- Where no #UD is due, a debug register is read and written at CPL 0. -/
theorem movDr_runs {n : RegNum} {s : State} (h : s.de = false ∨ drAliased n = false) (h0 : s.cplNow = 0) (r : RegNum)
    (len : Nat) :
    execBase [] (.movFromDr n r) len s = .next ((s.setR32 r (s.dr.get n)).advance len) ∧
      execBase [] (.movToDr n r) len s = .next (State.advance { s with dr := s.dr.put n (s.r32 r) } len) := by
  rw [execBase_movFromDr, execBase_movToDr, debugMove_allowed h, debugMove_allowed h]
  exact ⟨atCpl0_runs h0 len rfl, atCpl0_runs h0 len rfl⟩

/-- Settles O49, move by move: the operation behind `atCpl0` says what is written, refused or raised. -/
theorem controlRegisterMoves : Obligations.ControlRegisterMoves := by
  intro r len s past v badCr0
  refine ⟨?aboveCpl0, fun h => atCpl0_gp len (moveToCr4_gp h),
    fun h => atCpl0_gp len (moveToCr0_gp ((badCr0_iff _).2 h)),
    fun h0 => ⟨?cr4Written, ?cr4Refused, ?cr0Written, ?cr0Refused, ?cr3, ?toCr2, ?fromCr0, ?fromCr2, ?fromCr3,
      ?fromCr4⟩,
    ?drAboveCpl0, ?dr, ?drUndefined, ?drAlias⟩
  case aboveCpl0 =>
    intro h b hb
    simp only [List.mem_cons, List.not_mem_nil, or_false] at hb
    obtain rfl | rfl | rfl | rfl | rfl | rfl | rfl | rfl := hb <;> simp [atCpl0_denied h]
  case cr4Written => exact fun h k => atCpl0_runs h0 len (moveToCr4_ok h k)
  case cr4Refused => exact fun h hs hv hp => atCpl0_stop h0 len (moveToCr4_refused h hs hv hp)
  case cr0Written => exact fun h k => atCpl0_runs h0 len (moveToCr0_ok (mt (badCr0_iff _).1 h) k)
  case cr0Refused =>
    exact fun h hs hv hg hp => atCpl0_stop h0 len (moveToCr0_refused (mt (badCr0_iff _).1 h) hs hv hg hp)
  case cr3 => exact ⟨_, atCpl0_runs h0 len rfl, rfl, mem_flushTlb { s with cr3 := v }, rfl⟩
  case toCr2 => exact (execBase_movToCr2 ..).trans (atCpl0_runs (t := { s with cr2 := v }) h0 len rfl)
  case fromCr0 => exact (execBase_movFromCr0 ..).trans (atCpl0_runs h0 len rfl)
  case fromCr2 => exact (execBase_movFromCr2 ..).trans (atCpl0_runs h0 len rfl)
  case fromCr3 => exact (execBase_movFromCr3 ..).trans (atCpl0_runs h0 len rfl)
  case fromCr4 => exact (execBase_movFromCr4 ..).trans (atCpl0_runs h0 len rfl)
  case drAboveCpl0 =>
    intro h n hn
    have plain : s.de = false ∨ drAliased n = false := hn.imp_right fun h45 => by simpa [drAliased] using h45
    rw [execBase_movFromDr, execBase_movToDr, debugMove_allowed plain, debugMove_allowed plain]
    exact ⟨atCpl0_denied h .., atCpl0_denied h ..⟩
  case dr =>
    intro h0 c hc
    simp only [List.mem_cons, List.not_mem_nil, or_false] at hc
    obtain rfl | rfl | rfl | rfl | rfl | rfl := hc <;> exact movDr_runs (.inr rfl) h0 r len
  case drUndefined =>
    intro hd n hn
    have aliased : drAliased n = true := by simpa [drAliased] using hn
    exact ⟨debugMove_ud hd aliased .., debugMove_ud hd aliased ..⟩
  case drAlias =>
    intro hd h0
    obtain ⟨from4, to4⟩ := movDr_runs (n := 4) (.inl hd) h0 r len
    obtain ⟨from5, to5⟩ := movDr_runs (n := 5) (.inl hd) h0 r len
    exact ⟨from4, from5, to4, to5⟩

end Sys2Proof.Machine
end

section
namespace Sys2Proof.Machine

/-! # Memory: segment checks, paging, operands and the fetch of an instruction (20_memory) -/

/-! ## Segment and alignment checks -/

theorem nullable_iff (g : SegName) : nullable g = true ↔ g ≠ .cs ∧ g ≠ .ss := by
  cases g <;> decide

/-- The limit by the mode (20_memory R88, 60 R563). -/
theorem limitOf_eq (s : State) (g : SegName) :
    s.limitOf g =
      if s.mode = .prot then (s.segs.get g).limit else if s.mode = .smm then 0xFFFFFFFF else 0x0000FFFF := by
  unfold State.limitOf
  cases s.mode <;> rfl

/-- In protected mode an access uses a null selector, or a store a segment that is not writable (20_memory R88). -/
def State.segDenied (s : State) (g : SegName) (write : Bool) : Prop :=
  s.mode = .prot ∧ g ≠ .cs ∧ g ≠ .ss ∧ (s.segs.get g).sel = 0 ∨
    s.mode = .prot ∧ write = true ∧ (s.segs.get g).writable = false

theorem segCheck_denied {s : State} {g : SegName} {write : Bool} (h : s.segDenied g write) (ea : Dword) (n : Nat) :
    s.segCheck g ea n write = some .gp := by
  unfold State.segCheck
  obtain ⟨hm, hcs, hss, hsel⟩ | ⟨hm, hw, hro⟩ := h
  · simp [hm, (nullable_iff g).2 ⟨hcs, hss⟩, hsel]
  · simp [hm, hw, hro]

/-- Where neither is so, the limit decides. -/
theorem segCheck_allowed {s : State} {g : SegName} {write : Bool} (h : ¬ s.segDenied g write) (ea : Dword) (n : Nat) :
    s.segCheck g ea n write = if ea.toNat + n - 1 > (s.limitOf g).toNat then some (segExn g) else none := by
  unfold State.segDenied at h
  rw [State.segCheck, if_neg, if_neg]
  · simp only [Bool.and_eq_true, decide_eq_true_eq, Bool.not_eq_true']
    rintro ⟨⟨hm, hw⟩, hro⟩
    exact h (.inr ⟨hm, hw, hro⟩)
  · simp only [Bool.and_eq_true, decide_eq_true_eq, beq_iff_eq, nullable_iff]
    rintro ⟨⟨hm, hcs, hss⟩, hsel⟩
    exact h (.inl ⟨hm, hcs, hss, hsel⟩)

theorem misaligned_iff (s : State) (lin : Dword) (n : Nat) :
    s.misaligned lin n = true ↔ s.cplNow = 3 ∧ s.am = true ∧ s.flag bitAC = true ∧ lin.toNat % n ≠ 0 := by
  simp [State.misaligned, State.alignChecked, and_assoc]

theorem operandAddrs_segExn {s : State} {g : SegName} {ea : Dword} {n : Nat} {w : Bool} {e : Exn}
    (h : s.segCheck g ea n w = some e) : s.operandAddrs g ea n w = .exn e := by
  simp only [State.operandAddrs, h]

theorem operandAddrs_misaligned {s : State} {g : SegName} {ea : Dword} {n : Nat} {w : Bool}
    (h : s.segCheck g ea n w = none) (hm : s.misaligned (s.lin g ea) n = true) :
    s.operandAddrs g ea n w = .exn .ac := by
  simp only [State.operandAddrs, h, hm, if_true]

theorem operandAddrs_checked {s : State} {g : SegName} {ea : Dword} {n : Nat} {w : Bool}
    (h : s.segCheck g ea n w = none) (hm : s.misaligned (s.lin g ea) n = false) :
    s.operandAddrs g ea n w = s.linAddrs (s.lin g ea) n (s.access w) := by
  simp only [State.operandAddrs, h, hm, Bool.false_eq_true, if_false]

/-- Settles O43: the segment's rights first, then the limit, then alignment, then paging. -/
theorem operandChecks : Obligations.OperandChecks := by
  intro s g ea n w null readOnly limit beyond crooked
  have hlimit : limit = s.limitOf g := (limitOf_eq s g).symm
  refine ⟨fun h => operandAddrs_segExn (segCheck_denied h ea n), fun hn hr hb => ?_, fun hn hr hb hc => ?_,
    fun hn hr hb hc hp => ?_⟩
  all_goals
    have check := segCheck_allowed (s := s) (g := g) (write := w) (not_or.2 ⟨hn, hr⟩) ea n
    rw [← hlimit] at check
  · exact operandAddrs_segExn (check.trans (if_pos hb))
  · exact operandAddrs_misaligned (check.trans (if_neg hb)) ((misaligned_iff ..).2 hc)
  · have hm : s.misaligned (s.lin g ea) n = false := Bool.eq_false_iff.2 (mt (misaligned_iff ..).1 hc)
    rw [operandAddrs_checked (check.trans (if_neg hb)) hm, linAddrs_flat _ _ _ _ hp]
    rfl

/-- Settles O44, by the branch for CR0.PG = 0. -/
theorem pagingOffIsIdentity : Obligations.PagingOffIsIdentity := by
  intro s la acc h
  simp [State.translate, h]

/-! ## A step that runs an instruction -/

/-- Before an instruction no single step is pending: only the halt state of SMM would hold one back (log 62). -/
theorem stepTrap_of_no_event {s : State} (h : pendingEvent s = none) : s.stepTrap = false := by
  unfold pendingEvent at h
  split at h
  · contradiction
  split at h
  · contradiction
  split at h
  · contradiction
  rename_i noTrap
  split at h
  · contradiction
  split at h
  · split at h <;> contradiction
  split at h
  · contradiction
  rename_i awake
  have noHalt : s.smmHalt = false := by simp [State.smmHalt, awake]
  simpa [noHalt] using noTrap

/-- With no input and no event a step fetches and runs. -/
theorem step_fetchRun {s : State} (hin : s.inputs = []) (hev : pendingEvent s = none) :
    step s = ticked s (fetchRun s) := by
  simp only [step, hin, boundary, hev]

theorem PagingOnly.flag {s t : State} (h : PagingOnly s t) (k : Nat) : t.flag k = s.flag k := by
  rw [h.fields]
  rfl

theorem PagingOnly.stepTrap {s t : State} (h : PagingOnly s t) : t.stepTrap = s.stepTrap := by
  rw [h.fields]

/-- Settles O54: a fetch changes only what paging changes, so TF and the pending single step are those of `s`. -/
theorem stepRunsDecoded : Obligations.StepRunsDecoded := by
  intro s t i hin hev hf
  have paging := fetch_ok hf
  refine ⟨paging, ?_, ?_, fun clear => ?_⟩
  · rw [step_fetchRun hin hev, fetchRun_instr hf]
  · rw [← paging.flag bitTF]
    rfl
  · exact begun_of_clear ((paging.flag bitTF).trans clear) (paging.stepTrap.trans (stepTrap_of_no_event hev))

/-! ## Addresses and fields of paging entries -/

theorem toNat_append_eq {v w : Nat} (a : BitVec v) (b : BitVec w) : (a ++ b).toNat = a.toNat * 2 ^ w + b.toNat := by
  rw [BitVec.toNat_append, ← Nat.shiftLeft_add_eq_or_of_lt b.isLt, Nat.shiftLeft_eq]

theorem field_eq_zero {w : Nat} (v : BitVec w) (lo n : Nat) : field w v lo n = 0 ↔ v.extractLsb' lo n = 0 :=
  ⟨fun h => BitVec.eq_of_toNat_eq h, fun h => congrArg BitVec.toNat h⟩

/-- Where an entry is: bits `lo` on of `base` locate the table, bits `i` on of the linear address the entry in it, and
an entry is `2 ^ c` bytes (20_memory R105, R112). -/
def entryAddr {v : Nat} (base : BitVec v) (lo n : Nat) (la : Dword) (i k c : Nat) : Nat :=
  (base.extractLsb' lo n ++ la.extractLsb' i k ++ 0#c).toNat

theorem entryAddr_eq {v : Nat} (base : BitVec v) (lo n : Nat) (la : Dword) (i k c : Nat) :
    entryAddr base lo n la i k c = field v base lo n <<< (k + c) + field 32 la i k * 2 ^ c := by
  simp only [entryAddr, field, toNat_append_eq, Nat.shiftLeft_eq, Nat.add_mul, Nat.pow_add, Nat.mul_assoc,
    BitVec.toNat_zero, Nat.add_zero]

/-! ## What a walk that maps a page answers -/

/-- The walk that ends in the directory entry `pde` at `a`: a page of `2 ^ shift` bytes (20_memory R106, R113). -/
def largeWalk (la : Dword) (shift n : Nat) (pde : BitVec 64) (a : Nat) : Walk :=
  ⟨leafEntry la shift (field 64 pde shift n <<< shift) pde pde a, [a]⟩

/-- The walk through `pde` at `a` that ends in the table entry `pte` at `b`: a 4-KB page (20_memory R105, R114). -/
def smallWalk (la : Dword) (n : Nat) (pde pte : BitVec 64) (a b : Nat) : Walk :=
  ⟨leafEntry la 12 (field 64 pte 12 n <<< 12) pde pte b, [a, b]⟩

/-- The physical address a leaf gives: its frame, and the low bits of the linear address below. -/
theorem physOf_leafEntry (la : Dword) (shift lo n : Nat) (pde leaf : BitVec 64) (a : Nat) :
    physOf (leafEntry la shift (field 64 leaf lo n <<< shift) pde leaf a) la =
      (leaf.extractLsb' lo n ++ la.extractLsb' 0 shift).toNat := by
  simp only [physOf, leafEntry, field, toNat_append_eq, Nat.shiftLeft_eq, BitVec.extractLsb'_toNat, Nat.shiftRight_zero]

theorem largeWalk_maps (la : Dword) (shift n : Nat) (pde : BitVec 64) (a : Nat) :
    let w := largeWalk la shift n pde a
    physOf w.entry la = (pde.extractLsb' shift n ++ la.extractLsb' 0 shift).toNat ∧ w.accessed = [a] ∧
      w.entry.user = pde.getLsbD 2 ∧ w.entry.writable = pde.getLsbD 1 ∧
      w.entry.leaf = a ∧ w.entry.dirty = pde.getLsbD 6 ∧ w.entry.global = pde.getLsbD 8 :=
  ⟨physOf_leafEntry .., rfl, Bool.and_self _, Bool.and_self _, rfl, rfl, rfl⟩

theorem smallWalk_maps (la : Dword) (n : Nat) (pde pte : BitVec 64) (a b : Nat) :
    let w := smallWalk la n pde pte a b
    physOf w.entry la = (pte.extractLsb' 12 n ++ la.extractLsb' 0 12).toNat ∧ w.accessed = [a, b] ∧
      w.entry.user = (pde.getLsbD 2 && pte.getLsbD 2) ∧ w.entry.writable = (pde.getLsbD 1 && pte.getLsbD 1) ∧
      w.entry.leaf = b ∧ w.entry.dirty = pte.getLsbD 6 ∧ w.entry.global = pte.getLsbD 8 :=
  ⟨physOf_leafEntry .., rfl, rfl, rfl, rfl, rfl, rfl⟩

/-! ## The walks, entry by entry -/

section
variable {s : State} {la : Dword} {acc : Access}

/-- The 32-bit walk in the terms of 20_memory R104 to R106 and R110. -/
theorem walk_32 (h : s.pae = false) :
    s.walk la acc =
      (s.readEntry (entryAddr s.cr3 12 20 la 22 10 2) 4).bind fun pde t =>
        if pde.getLsbD 0 = false then notPresent acc la
        else if t.pse && pde.getLsbD 7 then
          if field 64 pde 12 10 ≠ 0 then reservedBit acc la
          else .ok (largeWalk la 22 10 pde (entryAddr s.cr3 12 20 la 22 10 2)) t
        else
          (t.readEntry (entryAddr pde 12 20 la 12 10 2) 4).bind fun pte t =>
            if pte.getLsbD 0 = false then notPresent acc la
            else
              .ok (smallWalk la 20 pde pte (entryAddr s.cr3 12 20 la 22 10 2) (entryAddr pde 12 20 la 12 10 2)) t := by
  simp [State.walk, h, State.walk32, entryAddr_eq, largeWalk, smallWalk, entP, entPS]

/-- The walk with physical address extension in the terms of 20_memory R110 to R114. -/
theorem walk_pae (h : s.pae = true) :
    s.walk la acc =
      (s.readEntry (entryAddr s.cr3 5 27 la 30 2 3) 8).bind fun pdpte s =>
        if pdpte.getLsbD 0 = false then notPresent acc la
        else if field 64 pdpte 36 28 ≠ 0 ∨ field 64 pdpte 1 2 ≠ 0 ∨ field 64 pdpte 5 4 ≠ 0 then
          reservedBit acc la
        else
          (s.readEntry (entryAddr pdpte 12 24 la 21 9 3) 8).bind fun pde s =>
            if pde.getLsbD 0 = false then notPresent acc la
            else if field 64 pde 36 28 ≠ 0 then reservedBit acc la
            else if pde.getLsbD 7 = true then
              if field 64 pde 12 9 ≠ 0 then reservedBit acc la
              else .ok (largeWalk la 21 15 pde (entryAddr pdpte 12 24 la 21 9 3)) s
            else
              (s.readEntry (entryAddr pde 12 24 la 12 9 3) 8).bind fun pte s =>
                if pte.getLsbD 0 = false then notPresent acc la
                else if field 64 pte 36 28 ≠ 0 then reservedBit acc la
                else
                  .ok (smallWalk la 24 pde pte (entryAddr pdpte 12 24 la 21 9 3) (entryAddr pde 12 24 la 12 9 3))
                    s := by
  simp [State.walk, h, State.walkPae, entryAddr_eq, largeWalk, smallWalk, entP, entPS, highReserved, or_assoc]

end

/-- A reserved field that is not 0 has a bit set. -/
theorem field_ne_zero {w : Nat} {v : BitVec w} {lo n : Nat} (h : v.extractLsb' lo n ≠ 0) : field w v lo n ≠ 0 :=
  mt (field_eq_zero v lo n).1 h

theorem field_clean {w : Nat} {v : BitVec w} {lo n : Nat} (h : v.extractLsb' lo n = 0) : ¬ field w v lo n ≠ 0 :=
  Decidable.not_not.2 ((field_eq_zero v lo n).2 h)

/-- Settles O45: the directory entry decides, and for a 4-KB page the table entry. -/
theorem pageWalk32 : Obligations.PageWalk32 := by
  intro s la acc pde pdeAddr large hpae hpde
  change s.readEntry (entryAddr s.cr3 12 20 la 22 10 2) 4 = .ok pde s at hpde
  rw [walk_32 hpae, hpde, Res.ok_bind]
  refine ⟨fun absent => if_pos absent, fun present hl reserved => ?_, fun present hl clean => ?_,
    fun present hl pte => ?_⟩
  all_goals rw [if_neg (ne_false_of_eq_true present)]
  · rw [if_pos (Bool.and_eq_true_iff.2 hl), if_pos (field_ne_zero reserved)]
    rfl
  · rw [if_pos (Bool.and_eq_true_iff.2 hl), if_neg (field_clean clean)]
    exact ⟨_, rfl, largeWalk_maps ..⟩
  · intro pteAddr hpte
    change s.readEntry (entryAddr pde 12 20 la 12 10 2) 4 = .ok pte s at hpte
    rw [if_neg (mt Bool.and_eq_true_iff.1 hl), hpte, Res.ok_bind]
    refine ⟨fun absent => if_pos absent, fun present => ?_⟩
    rw [if_neg (ne_false_of_eq_true present)]
    exact ⟨_, rfl, smallWalk_maps ..⟩

/-- Settles O46: three entries decide in turn. -/
theorem pageWalkPae : Obligations.PageWalkPae := by
  intro s la acc pdpte pde pte pdpteAddr pdeAddr pteAddr absent reserved clean hpae hpdpte
  change s.readEntry (entryAddr s.cr3 5 27 la 30 2 3) 8 = .ok pdpte s at hpdpte
  have clean_iff : clean ↔ ¬(field 64 pdpte 36 28 ≠ 0 ∨ field 64 pdpte 1 2 ≠ 0 ∨ field 64 pdpte 5 4 ≠ 0) := by
    simp [clean, field_eq_zero]
  dsimp only [absent, reserved]
  rw [walk_pae hpae, hpdpte, Res.ok_bind]
  refine ⟨fun h => if_pos h, fun present dirty => ?_, fun present hc hpde => ?_⟩
  all_goals rw [if_neg (ne_false_of_eq_true present)]
  · rw [if_pos (Decidable.not_not.1 (mt clean_iff.2 dirty))]
    rfl
  change s.readEntry (entryAddr pdpte 12 24 la 21 9 3) 8 = .ok pde s at hpde
  rw [if_neg (clean_iff.1 hc), hpde, Res.ok_bind]
  refine ⟨fun h => if_pos h, fun present high => ?_, fun present high large => ?_, fun present high small hpte => ?_⟩
  all_goals rw [if_neg (ne_false_of_eq_true present)]
  · rw [if_pos (field_ne_zero high)]
    rfl
  all_goals rw [if_neg (field_clean high)]
  · rw [if_pos large]
    refine ⟨fun low => if_pos (field_ne_zero low), fun low => ?_⟩
    rw [if_neg (field_clean low)]
    exact ⟨_, rfl, largeWalk_maps ..⟩
  · change s.readEntry (entryAddr pde 12 24 la 12 9 3) 8 = .ok pte s at hpte
    rw [if_neg (ne_true_of_eq_false small), hpte, Res.ok_bind]
    refine ⟨fun h => if_pos h, fun present high => ?_, fun present high => ?_⟩
    all_goals rw [if_neg (ne_false_of_eq_true present)]
    · rw [if_pos (field_ne_zero high)]
      rfl
    · rw [if_neg (field_clean high)]
      exact ⟨_, rfl, smallWalk_maps ..⟩

/-! ## Protection -/

/-- An access that page-level protection forbids (20_memory R116). -/
def denies (wp : Bool) (e : TlbEntry) (acc : Access) : Prop :=
  (acc.user = true ∧ e.user = false) ∨
    (acc.write = true ∧ e.writable = false ∧ (acc.user = true ∨ wp = true))

theorem permits_eq_false_iff (wp : Bool) (e : TlbEntry) (acc : Access) :
    permits wp e acc = false ↔ denies wp e acc := by
  unfold permits denies
  split
  · rename_i user
    cases e.user <;> simp [user]
  · rename_i user
    simp [user, and_assoc]

theorem permits_eq_true_iff (wp : Bool) (e : TlbEntry) (acc : Access) :
    permits wp e acc = true ↔ ¬ denies wp e acc := by
  rw [← permits_eq_false_iff, Bool.not_eq_false]

theorem getLsbD_pfCode (present : Bool) (acc : Access) (rsvd : Bool) (k : Nat) :
    (pfCode present acc rsvd).getLsbD k =
      if k = 3 then rsvd else if k = 2 then acc.user else if k = 1 then acc.write
      else if k = 0 then present else false := by
  simp [pfCode, getLsbD_setBit]

/-- The #PF of a protection violation: P = 1, the access in bits 1 and 2, no other bit (60 R510, log 22). -/
theorem protection_code {α : Type} (acc : Access) (la : Dword) :
    ∃ code, (protection acc la : Res α) = .exn (.pf code la) ∧ code.getLsbD 0 = true ∧ code.getLsbD 1 = acc.write ∧
      code.getLsbD 2 = acc.user ∧ ∀ k, 3 ≤ k → code.getLsbD k = false := by
  refine ⟨_, rfl, ?_, ?_, ?_, fun k hk => ?_⟩
  all_goals rw [getLsbD_pfCode]
  · rfl
  · rfl
  · rfl
  · rw [if_neg (by omega : k ≠ 2), if_neg (by omega : k ≠ 1), if_neg (by omega : k ≠ 0), ite_self]

/-! ## Marking entries -/

theorem stopAt_setPhysMem (s : State) (m : Memory) (a : Nat) : (s.setPhysMem m).stopAt a = s.stopAt a := by
  unfold State.setPhysMem
  split <;> rfl

theorem kind_setPhysMem (s : State) (m : Memory) (a : Nat) : (s.setPhysMem m).kind a = s.kind a := by
  unfold State.setPhysMem
  split <;> rfl

/-- The state with bits set in the low byte of entries. -/
def State.marked (s : State) (as : List Nat) (bits : Byte) : State :=
  s.setPhysMem (writeBytes s.physMem
    ((as.map fun a => (a, readByte s.physMem a ||| bits)).filter fun c => s.stores c.1))

theorem marked_tlb (s : State) (as : List Nat) (bits : Byte) : (s.marked as bits).tlb = s.tlb := by
  rw [State.marked, setPhysMem_fields]

theorem markEntries_eq {s : State} {as : List Nat} (h : ∀ a ∈ as, s.stopAt a = none) (bits : Byte) :
    s.markEntries as bits = .ok () (s.marked as bits) := by
  have noStop : as.findSome? s.stopAt = none := List.findSome?_eq_none_iff.2 h
  simp only [State.markEntries, State.writePhys, List.map_map, Function.comp_def, List.map_id', noStop, State.marked]

theorem markEntries_marked {s t : State} {as : List Nat} {bits : Byte} {u : Unit}
    (h : s.markEntries as bits = .ok u t) : t = s.marked as bits := (writePhys_ok h).1

theorem readByte_writeBytes_map (m : Memory) (as : List Nat) (f : Nat → Byte) (b : Nat) (h : Memory.wf m) :
    readByte (writeBytes m (as.map fun a => (a, f a))) b = if b ∈ as then f b else readByte m b := by
  induction as generalizing m with
  | nil => simp [writeBytes]
  | cons a t ih =>
    rw [List.map_cons, writeBytes, ih _ (writeByte_wf m a (f a) h), readByte_writeByte _ _ _ _ h]
    by_cases hb : b ∈ t
    · simp [hb]
    · by_cases e : b = a
      · simp [e]
      · simp [hb, e]

theorem marked_wf {s : State} (h : Memory.wf s.physMem) (as : List Nat) (bits : Byte) :
    Memory.wf (s.marked as bits).physMem := by
  rw [State.marked, setPhysMem_physMem]
  exact writeBytes_wf _ _ h

theorem stores_of_ram {s : State} (h : ∀ a, s.kind a = .ram) (a : Nat) : s.stores a = true := by
  simp [State.stores, h a]

theorem stopAt_of_ram {s : State} (h : ∀ a, s.kind a = .ram) (a : Nat) : s.stopAt a = none := by
  simp [State.stopAt, h a]

/-- Setting bit `i` in the entries of a list, where all memory is plain. -/
theorem marked_bit {s : State} (h : Memory.wf s.physMem) (ram : ∀ a, s.kind a = .ram) (as : List Nat) (i a k : Nat) :
    (readByte (s.marked as (BitVec.twoPow 8 i)).physMem a).getLsbD k =
      ((readByte s.physMem a).getLsbD k || decide (k = i ∧ i < 8 ∧ a ∈ as)) := by
  rw [State.marked, setPhysMem_physMem, List.filter_eq_self.2 fun c _ => stores_of_ram ram c.1,
    readByte_writeBytes_map _ _ _ _ h]
  by_cases ha : a ∈ as
  · simp [ha, BitVec.getLsbD_twoPow, Bool.and_comm, eq_comm]
  · simp [ha]

/-! ## The D bit of a leaf -/

/-- What the first write through `e` leaves: D set in its leaf, and known to the remembered walk (20_memory R117). -/
def State.dirtied (s : State) (e : TlbEntry) : State :=
  { s.marked [e.leaf] 0x40 with tlb := s.tlb.map fun t => if t == e then { t with dirty := true } else t }

theorem dirtyLeaf_runs {s : State} {e : TlbEntry} (h : s.stopAt e.leaf = none) (acc : Access) :
    s.dirtyLeaf e acc = .ok () (if acc.write && !e.dirty then s.dirtied e else s) := by
  have mark := markEntries_eq (s := s) (as := [e.leaf]) (fun a ha => List.mem_singleton.1 ha ▸ h) 0x40
  unfold State.dirtyLeaf
  split
  · rw [mark, Res.ok_bind, marked_tlb, State.dirtied]
  · rfl

theorem dirtyLeaf_dirtied {s t : State} {e : TlbEntry} {acc : Access} {u : Unit} (h : s.dirtyLeaf e acc = .ok u t) :
    t = if acc.write && !e.dirty then s.dirtied e else s := by
  unfold State.dirtyLeaf at h
  split at h
  · rename_i first
    obtain ⟨_, s₁, h₁, h⟩ := Res.bind_ok.1 h
    obtain rfl := markEntries_marked h₁
    injection h with _ h
    rw [if_pos first, ← h, marked_tlb, State.dirtied]
  · rename_i later
    injection h with _ h
    rw [if_neg later, h]

theorem dirtied_bit {s : State} (h : Memory.wf s.physMem) (ram : ∀ a, s.kind a = .ram) (e : TlbEntry) (a k : Nat) :
    (readByte (s.dirtied e).physMem a).getLsbD k =
      ((readByte s.physMem a).getLsbD k || decide (k = 6 ∧ a = e.leaf)) := by
  rw [show (s.dirtied e).physMem = (s.marked [e.leaf] (BitVec.twoPow 8 6)).physMem from rfl, marked_bit h ram]
  simp

/-- What the D bit adds to memory: bit 6 of the leaf, for a first write. -/
theorem dirtyLeaf_bit {s t : State} {e : TlbEntry} {acc : Access} {u : Unit} (h : s.dirtyLeaf e acc = .ok u t)
    (wf : Memory.wf s.physMem) (ram : ∀ a, s.kind a = .ram) (a k : Nat) :
    (readByte t.physMem a).getLsbD k =
      ((readByte s.physMem a).getLsbD k || decide (acc.write = true ∧ e.dirty = false ∧ k = 6 ∧ a = e.leaf)) := by
  obtain rfl := dirtyLeaf_dirtied h
  split
  · rename_i first
    obtain ⟨hw, hd⟩ : acc.write = true ∧ e.dirty = false := by simpa using first
    simp [dirtied_bit wf ram, hw, hd]
  · rename_i later
    have : ¬ (acc.write = true ∧ e.dirty = false ∧ k = 6 ∧ a = e.leaf) := fun ⟨hw, hd, _⟩ => later (by simp [hw, hd])
    simp [this]

/-! ## Translations -/

/-- After a fresh walk A is set in the entries it used, and it is remembered (20_memory R117). -/
def State.walked (s : State) (w : Walk) : State := { s.marked w.accessed 0x20 with tlb := w.entry :: s.tlb }

/-- A fresh walk that answers: its rights allow the access, it sets A in the entries it used, then D. -/
theorem freshWalk_walked {s t : State} {la : Dword} {acc : Access} {w : Walk} {pa : Nat}
    (hw : s.walk la acc = .ok w s) (h : s.freshWalk la acc = .ok pa t) :
    pa = physOf w.entry la ∧ (s.walked w).dirtyLeaf w.entry acc = .ok () t := by
  unfold State.freshWalk at h
  rw [hw, Res.ok_bind] at h
  split at h
  · obtain ⟨_, s₁, h₁, h⟩ := Res.bind_ok.1 h
    obtain ⟨⟨⟩, s₂, h₂, h₃⟩ := Res.bind_ok.1 h
    obtain rfl := markEntries_marked h₁
    rw [marked_tlb] at h₂
    injection h₃ with h₃ h₄
    exact ⟨h₃.symm, h₄ ▸ h₂⟩
  · contradiction

theorem freshWalk_denied {s : State} {la : Dword} {acc : Access} {w : Walk} (hw : s.walk la acc = .ok w s)
    (h : denies s.wp w.entry acc) : s.freshWalk la acc = protection acc la := by
  rw [State.freshWalk, hw, Res.ok_bind, (permits_eq_false_iff ..).2 h]
  rfl

theorem freshWalk_allowed {s : State} {la : Dword} {acc : Access} {w : Walk} (hw : s.walk la acc = .ok w s)
    (h : ¬ denies s.wp w.entry acc) (stops : ∀ a ∈ w.entry.leaf :: w.accessed, s.stopAt a = none) :
    ∃ t, s.freshWalk la acc = .ok (physOf w.entry la) t := by
  have mark := markEntries_eq (fun a ha => stops a (List.mem_cons_of_mem _ ha)) 0x20
  have leaf : (s.walked w).stopAt w.entry.leaf = none :=
    (stopAt_setPhysMem s _ _).trans (stops _ List.mem_cons_self)
  rw [State.freshWalk, hw, Res.ok_bind, (permits_eq_true_iff ..).2 h, if_pos rfl, mark, Res.ok_bind, marked_tlb]
  exact ⟨_, congrArg (Res.bind · _) (dirtyLeaf_runs leaf acc)⟩

theorem through_denied {s : State} {e : TlbEntry} {acc : Access} (h : denies s.wp e acc) (la : Dword) :
    s.through e la acc = protection acc la := by
  rw [State.through, (permits_eq_false_iff ..).2 h]
  rfl

theorem through_allowed {s : State} {e : TlbEntry} {acc : Access} (h : ¬ denies s.wp e acc)
    (stop : s.stopAt e.leaf = none) (la : Dword) : ∃ t, s.through e la acc = .ok (physOf e la) t := by
  rw [State.through, (permits_eq_true_iff ..).2 h, if_pos rfl, dirtyLeaf_runs stop]
  exact ⟨_, rfl⟩

/-- A translation through a remembered walk that answers: only the D bit of its leaf can change. -/
theorem through_dirtyLeaf {s t : State} {e : TlbEntry} {la : Dword} {acc : Access} {pa : Nat}
    (h : s.through e la acc = .ok pa t) : pa = physOf e la ∧ s.dirtyLeaf e acc = .ok () t := by
  unfold State.through at h
  split at h
  · obtain ⟨⟨⟩, s₁, h₁, h⟩ := Res.bind_ok.1 h
    injection h with h h'
    exact ⟨h.symm, h' ▸ h₁⟩
  · contradiction

theorem translate_paged {s : State} (h : s.pg = true) (la : Dword) (acc : Access) :
    s.translate la acc = s.translatePaged la acc := if_pos h

/-- With no remembered walk a translation is a fresh one (20_memory R118). -/
theorem translate_fresh {s : State} (h : s.pg = true) (empty : s.tlb = []) (la : Dword) (acc : Access) :
    s.translate la acc = s.drew.freshWalk la acc := by
  rw [translate_paged h]
  obtain ⟨e, he, -⟩ | fresh := translatePaged_cases s la acc
  · simp [empty] at he
  · exact fresh

/-- Settles O47: a translation goes one of two ways, and in each the rights of its walk decide. -/
theorem pageProtection : Obligations.PageProtection := by
  refine ⟨fun s la acc w hp empty hw => ?fresh, fun s la acc hp => ?ways, fun s e la acc => ?remembered⟩
  case fresh =>
    rw [translate_fresh hp empty]
    exact ⟨fun denied => freshWalk_denied (s := s.drew) hw denied ▸ protection_code acc la,
      fun allowed stops => freshWalk_allowed (s := s.drew) hw allowed stops⟩
  case ways => exact translate_paged hp la acc ▸ translatePaged_cases s la acc
  case remembered =>
    exact ⟨fun denied => through_denied denied la ▸ protection_code acc la,
      fun allowed stop => through_allowed allowed stop la⟩

/-! ## The A and D bits of a translation -/

/-- Bit 6 of the entry at `a` is bit 6 of its first byte. -/
theorem readEntry_dirty {s t : State} {a n : Nat} {e : BitVec 64} (hn : 0 < n) (h : s.readEntry a n = .ok e t) :
    e.getLsbD 6 = (readByte s.physMem a).getLsbD 6 := by
  obtain ⟨bs, u, h₁, h₂⟩ := Res.bind_ok.1 h
  obtain ⟨rfl, rfl, -⟩ := readPhys_ok h₁
  injection h₂ with h₂
  rw [← h₂, getLsbD_leValue _ _ _ (by decide)]
  simp [readBytes, span, List.getD, hn]

/-- Where the walk answers, it meets `P`. -/
def Res.answers (r : Res Walk) (P : Walk → Prop) : Prop := ∀ w t, r = .ok w t → P w

theorem Res.answers.ok {w : Walk} {s : State} {P : Walk → Prop} (h : P w) : (Res.ok w s).answers P := fun _ _ e => by
  cases e
  exact h

theorem Res.answers.exn {e : Exn} {P : Walk → Prop} : (Res.exn e).answers P := fun _ _ h => by contradiction

theorem Res.answers.ite {c : Prop} [Decidable c] {r q : Res Walk} {P : Walk → Prop} (h : r.answers P)
    (k : q.answers P) : (if c then r else q).answers P := by
  split <;> assumption

/-- A walk goes on from an entry it reads, whose bit 6 memory holds. -/
theorem Res.answers.entry {s : State} {a n : Nat} {k : BitVec 64 → State → Res Walk} {P : Walk → Prop} (hn : 0 < n)
    (h : ∀ e, e.getLsbD 6 = (readByte s.physMem a).getLsbD 6 → (k e s).answers P) :
    ((s.readEntry a n).bind k).answers P := fun w t hw => by
  obtain ⟨e, u, hu, rest⟩ := Res.bind_ok.1 hw
  obtain rfl := readEntry_ok hu
  exact h e (readEntry_dirty hn hu) w t rest

/-- A walk knows the D bit of its leaf. -/
theorem walk_dirty (s : State) (la : Dword) (acc : Access) :
    (s.walk la acc).answers fun w => w.entry.dirty = (readByte s.physMem w.entry.leaf).getLsbD 6 :=
  .ite
    (.entry (by decide) fun _ _ => .ite .exn <| .ite .exn <| .entry (by decide) fun _ large => .ite .exn <| .ite .exn <|
      .ite (.ite .exn (.ok large)) <| .entry (by decide) fun _ small => .ite .exn <| .ite .exn (.ok small))
    (.entry (by decide) fun _ large => .ite .exn <| .ite (.ite .exn (.ok large)) <|
      .entry (by decide) fun _ small => .ite .exn (.ok small))

@[simp] theorem drew_physMem (s : State) : s.drew.physMem = s.physMem := rfl

theorem walked_bit {s : State} (h : Memory.wf s.physMem) (ram : ∀ a, s.kind a = .ram) (w : Walk) (a k : Nat) :
    (readByte (s.walked w).physMem a).getLsbD k =
      ((readByte s.physMem a).getLsbD k || decide (k = 5 ∧ a ∈ w.accessed)) := by
  rw [show (s.walked w).physMem = (s.marked w.accessed (BitVec.twoPow 8 5)).physMem from rfl, marked_bit h ram]
  simp

/-- Memory after a fresh translation: A in the entries used, and D in the leaf for the first write. -/
theorem freshWalk_bit {s t : State} {la : Dword} {acc : Access} {w : Walk} {pa : Nat} (wf : Memory.wf s.physMem)
    (ram : ∀ a, s.kind a = .ram) (hw : s.walk la acc = .ok w s) (h : s.freshWalk la acc = .ok pa t) (a k : Nat) :
    (readByte t.physMem a).getLsbD k =
      ((readByte s.physMem a).getLsbD k || decide (k = 5 ∧ a ∈ w.accessed) ||
        decide (acc.write = true ∧ w.entry.dirty = false ∧ k = 6 ∧ a = w.entry.leaf)) := by
  rw [dirtyLeaf_bit (freshWalk_walked hw h).2 (marked_wf wf _ _) fun b => (kind_setPhysMem s _ b).trans (ram b),
    walked_bit wf ram]

/-- After its first write the remembered walk knows the D bit. -/
theorem mem_dirtied {s : State} {e : TlbEntry} (hd : e.dirty = false) (h : e ∈ s.tlb) :
    { e with dirty := true } ∈ (s.dirtied e).tlb ∧ e ∉ (s.dirtied e).tlb := by
  refine ⟨List.mem_map.2 ⟨e, h, if_pos (beq_self_eq_true e)⟩, fun hm => ?_⟩
  obtain ⟨x, -, hx⟩ := List.mem_map.1 hm
  split at hx
  · rw [← hx] at hd
    contradiction
  · rename_i ne
    exact ne (beq_iff_eq.2 hx)

theorem dirtied_fields (s : State) (e : TlbEntry) :
    s.dirtied e = { s with mem := (s.dirtied e).mem, smram := (s.dirtied e).smram, tlb := (s.dirtied e).tlb } := by
  unfold State.dirtied State.marked State.setPhysMem
  split <;> rfl

/-- Settles O48: the bits of memory after a fresh translation, and after one through a remembered walk. -/
theorem accessedDirty : Obligations.AccessedDirty := by
  refine ⟨fun s t la acc w pa hp empty wf ram hw ht => ?fresh, fun s t e la acc pa wf ram ht => ?remembered⟩
  case fresh =>
    rw [translate_fresh hp empty] at ht
    have bit := freshWalk_bit (s := s.drew) wf ram hw ht
    refine ⟨(freshWalk_walked hw ht).1, fun a ha => ?_, fun write => ?_, fun a rest => ?_, fun a k h5 h6 => ?_,
      fun a unused noLeaf => BitVec.eq_of_getLsbD_eq fun k _ => ?_⟩
    all_goals rw [bit]
    · simp [ha]
    · have known : w.entry.dirty = (readByte s.drew.physMem w.entry.leaf).getLsbD 6 := walk_dirty _ _ _ _ _ hw
      rw [← known]
      cases w.entry.dirty <;> simp [write]
    · obtain read | other := rest
      · simp [read]
      · simp [other]
    · simp [h5, h6]
    · simp [unused, noLeaf]
  case remembered =>
    obtain ⟨hpa, hleaf⟩ := through_dirtyLeaf ht
    have bit := dirtyLeaf_bit hleaf wf ram
    have after := dirtyLeaf_dirtied hleaf
    refine ⟨hpa, fun write clean => ⟨?_, fun known => ?_⟩, fun unmarked => ?_,
      fun a noLeaf => BitVec.eq_of_getLsbD_eq fun k _ => ?_, fun a k h6 => ?_, ?_⟩
    · simp [bit, write, clean]
    · rw [after, if_pos (by simp [write, clean])]
      exact mem_dirtied clean known
    · rw [after, if_neg]
      obtain read | dirty := unmarked
      · simp [read]
      · simp [dirty]
    · simp [bit, noLeaf]
    · simp [bit, h6]
    · rw [after]
      split
      · exact dirtied_fields s e
      · rfl

/-! ## Operands with paging off -/

/-- With paging off, the addresses of `n` bytes from a linear address on (20_memory R103). -/
def flatAddrs (lin : Dword) (n : Nat) : List Nat := (List.range n).map fun k => (linByte lin k).toNat

theorem flatAddrs_add (lin : Dword) (m n : Nat) :
    flatAddrs lin (m + n) = flatAddrs lin m ++ flatAddrs (lin + BitVec.ofNat 32 m) n := by
  simp [flatAddrs, List.range_add, linByte, BitVec.add_assoc]

theorem flatAddrs_nodup (lin : Dword) {n : Nat} (h : n ≤ 2 ^ 32) : (flatAddrs lin n).Nodup := by
  refine List.pairwise_map.2 (List.nodup_range.imp_of_mem fun hj hk ne e => ne ?_)
  rw [List.mem_range] at hj hk
  have offsets := congrArg BitVec.toNat ((BitVec.add_right_inj lin).1 (BitVec.eq_of_toNat_eq e))
  rwa [BitVec.toNat_ofNat, BitVec.toNat_ofNat, Nat.mod_eq_of_lt (Nat.lt_of_lt_of_le hj h),
    Nat.mod_eq_of_lt (Nat.lt_of_lt_of_le hk h)] at offsets

@[simp] theorem flatAddrs_length (lin : Dword) (n : Nat) : (flatAddrs lin n).length = n := by
  simp [flatAddrs]

/-- An operand that passes its checks with paging off. -/
theorem operandAddrs_flat {s t : State} {seg : SegName} {ea : Dword} {n : Nat} {w : Bool} {as : List Nat}
    (hp : s.pg = false) (h : s.operandAddrs seg ea n w = .ok as t) : as = flatAddrs (s.lin seg ea) n ∧ t = s := by
  have lin := (operandAddrs_ok h).2.2
  rw [linAddrs_flat _ _ _ _ hp] at lin
  injection lin with has ht
  exact ⟨has.symm, ht.symm⟩

/-- The value of a memory source with paging off. -/
theorem readMem_flat {s t : State} {p : List Pfx} {m : Mem} {w n : Nat} {v : BitVec w} (hp : s.pg = false)
    (h : s.readMem p m w n = .ok v t) :
    v = leValue w (readBytes s.physMem (flatAddrs (s.lin (operandSeg p m) (s.ea m)) n)) := by
  obtain ⟨bs, u, hload, hv⟩ := Res.bind_ok.1 h
  obtain ⟨-, as, has, rfl⟩ := load_ok hload
  obtain ⟨rfl, rfl⟩ := operandAddrs_flat hp has
  injection hv with hv
  exact hv.symm

/-- A store whose checks pass, to plain memory. -/
theorem store_runs {s t : State} {seg : SegName} {ea : Dword} {bs : List Byte} {as : List Nat}
    (h : s.operandAddrs seg ea bs.length true = .ok as t) (ram : ∀ a, t.kind a = .ram) :
    s.store seg ea bs = .ok () (t.setPhysMem (writeBytes t.physMem (as.zip bs))) := by
  have noStop : ((as.zip bs).map Prod.fst).findSome? t.stopAt = none :=
    List.findSome?_eq_none_iff.2 fun a _ => stopAt_of_ram ram a
  rw [State.store, h, Res.ok_bind, State.writePhys, noStop, List.filter_eq_self.2 fun c _ => stores_of_ram ram c.1]

/-! ## A quadword in memory -/

theorem extractLsb'_of_extractLsb' {w : Nat} (v : BitVec w) (i m : Nat) {j n : Nat} (h : j + n ≤ m) :
    (v.extractLsb' i m).extractLsb' j n = v.extractLsb' (i + j) n := by
  refine BitVec.eq_of_getLsbD_eq fun k hk => ?_
  have : j + k < m := by omega
  simp [hk, this, Nat.add_assoc]

/-- The bytes of a quadword are those of its two doublewords (20_memory R80). -/
theorem leBytes_lanes (v : Qword) : leBytes 8 v = leBytes 4 (laneD v 0) ++ leBytes 4 (laneD v 1) := by
  simp [leBytes, List.range_succ, laneD, extractLsb'_of_extractLsb']

/-- The doublewords of a stored quadword are its lanes. -/
theorem stored_lanes {m : Memory} (h : Memory.wf m) (lin : Dword) (v : Qword) :
    let stored := writeBytes m ((flatAddrs lin 8).zip (leBytes 8 v))
    leValue 32 (readBytes stored (flatAddrs lin 4)) = laneD v 0 ∧
      leValue 32 (readBytes stored (flatAddrs (lin + 4) 4)) = laneD v 1 := by
  intro stored
  have bytes : readBytes stored (flatAddrs lin (4 + 4)) = leBytes 8 v :=
    readBytes_writeBytes m _ _ h (flatAddrs_nodup lin (by decide)) (by simp)
  rw [flatAddrs_add, readBytes, List.map_append, leBytes_lanes] at bytes
  obtain ⟨low, high⟩ := List.append_inj bytes (by simp)
  exact ⟨(congrArg (leValue 32) low).trans (leValue_leBytes 4 _ (by decide)),
    (congrArg (leValue 32) high).trans (leValue_leBytes 4 _ (by decide))⟩

/-! ## The moves -/

theorem ea_congr {s t : State} (h : t.gpr = s.gpr) (m : Mem) : t.ea m = s.ea m := by
  cases m <;> simp only [State.ea, State.base16, State.scaledIndex, State.r16, State.r32, h]

theorem lin_congr {s t : State} (h : t.segs = s.segs) (seg : SegName) (ea : Dword) : t.lin seg ea = s.lin seg ea := by
  rw [State.lin, State.lin, h]

theorem lin_add (s : State) (seg : SegName) (ea v : Dword) : s.lin seg (ea + v) = s.lin seg ea + v :=
  (BitVec.add_assoc ..).symm

theorem exec_movqStore (p : List Pfx) (d : RegNum) (x : Rm) (s : State) :
    exec (.movqStore p d x) s = mmxFrame p 0 (rmLength p x) (fun t => t.dstMm p x (t.mm d)) s := rfl

theorem exec_movdLoad (p : List Pfx) (d : RegNum) (x : Rm) (s : State) :
    exec (.movdLoad p d x) s =
      mmxFrame p 0 (rmLength p x) (fun t => (t.src32 p x).bind fun v t => .ok () (t.setMm d (v.setWidth 64))) s := rfl

/-- MOVQ to plain memory (45 R334). -/
theorem movqStore_stores {s t u : State} {p : List Pfx} {d : RegNum} {m : Mem} {as : List Nat} (runs : mmxRuns s p)
    (h : s.operandAddrs (operandSeg p m) (s.ea m) 8 true = .ok as t) (ram : ∀ a, t.kind a = .ram)
    (hu : exec (.movqStore p d (.mem m)) s = .next u) :
    u = ((t.setPhysMem (writeBytes t.physMem (as.zip (leBytes 8 (s.mm d))))).mmxDone 0).advance
      (rmLength p (.mem m)) := by
  have stored : s.dstMm p (.mem m) (s.mm d) = _ := store_runs (bs := leBytes 8 (s.mm d)) (by simpa using h) ram
  rw [exec_movqStore, mmxFrame_runs _ _ _ runs, stored] at hu
  cases hu
  rfl

/-- MOVD into an MMX register (45 R331). -/
theorem movdLoad_loads {s t w : State} {p : List Pfx} {d : RegNum} {x : Rm} {v : Dword} (runs : mmxRuns s p)
    (h : s.src32 p x = .ok v t) (hw : exec (.movdLoad p d x) s = .next w) : w.mm d = v.setWidth 64 := by
  rw [exec_movdLoad, mmxFrame_runs _ _ _ runs, h] at hw
  cases hw
  simp

/-- With paging off MOVQ to plain memory keeps what the address of a later operand depends on. -/
theorem movqStore_flat {s u : State} {p : List Pfx} {d : RegNum} {m : Mem} {as : List Nat} (runs : mmxRuns s p)
    (hp : s.pg = false) (has : s.operandAddrs (operandSeg p m) (s.ea m) 8 true = .ok as s)
    (ram : ∀ a, s.kind a = .ram) (hu : exec (.movqStore p d (.mem m)) s = .next u) :
    u.gpr = s.gpr ∧ u.segs = s.segs ∧ u.pg = false ∧ u.physMem = writeBytes s.physMem
      ((flatAddrs (s.lin (operandSeg p m) (s.ea m)) 8).zip (leBytes 8 (s.mm d))) := by
  obtain rfl := (operandAddrs_flat hp has).1
  obtain rfl := movqStore_stores runs has ram hu
  refine ⟨?_, ?_, ?_, setPhysMem_physMem s _⟩
  all_goals rw [setPhysMem_fields]
  · rfl
  · rfl
  · exact hp

/-- Settles O16: the load reads four of the eight bytes the store wrote. -/
theorem storeThenLoad : Obligations.StoreThenLoad := by
  rintro p q d e m m' s u w wf hp ram hseg runs ⟨as, has⟩ hu runs' ⟨v, t, hv⟩ hw
  obtain ⟨gpr, segs, flat, mem⟩ := movqStore_flat runs hp has ram hu
  obtain ⟨low, high⟩ := stored_lanes wf (s.lin (operandSeg p m) (s.ea m)) (s.mm d)
  have value := readMem_flat flat hv
  rw [mem, ea_congr gpr, hseg, lin_congr segs] at value
  rw [movdLoad_loads runs' hv hw, value]
  exact ⟨fun ea => by rw [ea, low], fun ea => by rw [ea, lin_add, high]⟩

end Sys2Proof.Machine

namespace Sys2Proof.Laws

/-! ## The decoder on an encoding and on its beginnings (30_encoding R154) -/

theorem takePfx_all (p : List Pfx) : takePfx (p.map Pfx.byte) = (p, []) := by
  induction p with
  | nil => rfl
  | cons q u ih => simp [takePfx, ofByte_byte, ih]

/-- The opcode has not been read yet. -/
theorem decode_noOpcode (big : Bool) (p : List Pfx) : decode big (p.map Pfx.byte) = .needMore := by
  simp [decode, takePfx_all]

section
variable (big : Bool) (p : List Pfx)

theorem decode_escape0F : decode big (p.map Pfx.byte ++ [0x0F]) = .needMore := by
  simp only [decode, takePfx_map p 0x0F [] (by decide), if_true]

theorem decode_twoByte (op : Byte) (t : List Byte) :
    decode big (p.map Pfx.byte ++ 0x0F :: op :: t) = decode0F (addrWide big p) p op t := by
  simp only [decode, takePfx_map p 0x0F _ (by decide), if_true]

theorem decode_oneByte {op : Byte} (h : Pfx.ofByte op = none) (h0F : op ≠ 0x0F) (t : List Byte) :
    decode big (p.map Pfx.byte ++ op :: t) = decode1 p op t := by
  simp only [decode, takePfx_map p op _ h, if_neg h0F]

end

/-! ## Where an operand ends -/

/-- A reader of values of `size` bytes, `k` of which were read before: where it answers it has read the others, and it
reads the same whatever follows them. -/
def Reads {α : Type} (k : Nat) (f : List Byte → Option (α × List Byte)) (size : α → Nat) : Prop :=
  ∀ l v t, f l = some (v, t) → k + l.length = size v + t.length ∧ ∀ r, f (l ++ r) = some (v, t ++ r)

section
variable {α β : Type} {k : Nat} {f g : List Byte → Option (α × List Byte)} {size : α → Nat}

/-- Nothing is left to read. -/
theorem Reads.pure {v : α} (h : size v = k) : Reads k (fun l => some (v, l)) size := by
  intro l w t e
  cases e
  exact ⟨by rw [h], fun _ => rfl⟩

theorem Reads.ite {c : Prop} [Decidable c] (h : Reads k f size) (h' : Reads k g size) :
    Reads k (fun l => if c then f l else g l) size := by
  split <;> assumption

/-- What is read becomes part of a value that is `j` bytes longer. -/
theorem Reads.map {size' : β → Nat} {m : α → β} (j : Nat) (h : Reads k f size) (hs : ∀ v, size' (m v) = j + size v) :
    Reads (j + k) (fun l => (f l).map fun r => (m r.1, r.2)) size' := by
  intro l w t e
  obtain ⟨⟨v, u⟩, hv, hw⟩ := Option.map_eq_some_iff.1 e
  cases hw
  obtain ⟨length, more⟩ := h l v u hv
  exact ⟨by simp only [hs]; omega, fun r => by simp only [more r, Option.map_some]⟩

/-- One byte is read first. -/
theorem Reads.cons {f : Byte → List Byte → Option (α × List Byte)} (hnil : g [] = none)
    (hcons : ∀ b l, g (b :: l) = f b l) (h : ∀ b, Reads (k + 1) (f b) size) : Reads k g size := by
  intro l v t e
  cases l with
  | nil => simp [hnil] at e
  | cons b l =>
    rw [hcons] at e
    obtain ⟨length, more⟩ := h b l v t e
    exact ⟨by simp only [List.length_cons]; omega, fun r => (hcons b (l ++ r)).trans (more r)⟩

end

theorem take16_reads : Reads 0 take16 fun _ => 2 :=
  .cons rfl (fun _ _ => rfl) fun _ => .cons rfl (fun _ _ => rfl) fun _ => .pure rfl

theorem take32_reads : Reads 0 take32 fun _ => 4 :=
  .cons rfl (fun _ _ => rfl) fun _ => .cons rfl (fun _ _ => rfl) fun _ => .cons rfl (fun _ _ => rfl) fun _ =>
    .cons rfl (fun _ _ => rfl) fun _ => .pure rfl

theorem takeDisp16_reads (mod : BitVec 2) : Reads 0 (takeDisp16 mod) Disp16.size :=
  .ite (.pure rfl) (.ite (.cons rfl (fun _ _ => rfl) fun _ => .pure rfl) (take16_reads.map 0 fun _ => rfl))

theorem takeDisp32_reads (mod : BitVec 2) : Reads 0 (takeDisp32 mod) Disp32.size :=
  .ite (.pure rfl) (.ite (.cons rfl (fun _ _ => rfl) fun _ => .pure rfl) (take32_reads.map 0 fun _ => rfl))

theorem takeMem16_reads (mod : BitVec 2) (rm : RegNum) : Reads 0 (takeMem16 mod rm) Mem.size :=
  .ite (take16_reads.map 0 fun _ => rfl) ((takeDisp16_reads mod).map 0 fun _ => (Nat.zero_add _).symm)

theorem takeMem32_reads (mod : BitVec 2) (rm : RegNum) : Reads 0 (takeMem32 mod rm) Mem.size :=
  .ite
    (.cons rfl (fun _ _ => rfl) fun _ =>
      .ite (take32_reads.map 1 fun _ => rfl) ((takeDisp32_reads mod).map 1 fun _ => rfl))
    (.ite (take32_reads.map 0 fun _ => rfl) ((takeDisp32_reads mod).map 0 fun _ => (Nat.zero_add _).symm))

theorem takeRm_some {wide : Bool} {l t : List Byte} {d : RegNum} {x : Rm} (h : takeRm wide l = some (d, x, t)) :
    l.length = x.size + t.length ∧ ∀ r, takeRm wide (l ++ r) = some (d, x, t ++ r) := by
  cases l with
  | nil => contradiction
  | cons b l =>
    have mem : Reads 0
        (fun l => if wide then takeMem32 (modField b) (rmField b) l else takeMem16 (modField b) (rmField b) l)
        Mem.size := .ite (takeMem32_reads _ _) (takeMem16_reads _ _)
    simp only [takeRm] at h
    split at h
    · rename_i register
      cases h
      exact ⟨by simp only [List.length_cons, Rm.size]; omega, fun r => if_pos register⟩
    · rename_i memory
      obtain ⟨⟨m, u⟩, hm, hx⟩ := Option.map_eq_some_iff.1 h
      cases hx
      obtain ⟨length, more⟩ := mem l m u hm
      refine ⟨by simp only [List.length_cons, Rm.size]; omega, fun r => (if_neg memory).trans ?_⟩
      exact congrArg (Option.map _) (more r)

/-- The bytes of an operand but the last ones are not an operand. -/
theorem takeRm_beginning {wide : Bool} {x : Rm} (reg : RegNum) {n : Nat} (h : x.wf wide = true) (hn : n < x.size) :
    takeRm wide ((x.encode reg).take n) = none := by
  cases e : takeRm wide ((x.encode reg).take n) with
  | none => rfl
  | some v =>
    obtain ⟨d, y, t⟩ := v
    obtain ⟨length, more⟩ := takeRm_some e
    have whole := takeRm_encode wide reg x [] h
    rw [List.append_nil, ← List.take_append_drop n (x.encode reg), more] at whole
    simp only [Option.some.injEq, Prod.mk.injEq] at whole
    obtain ⟨-, rfl, -⟩ := whole
    rw [List.length_take] at length
    omega

/-! ## The shapes of an encoding -/

/-- After the bytes `p` the decoder reads `bs` as `i` whatever follows, and no proper beginning of `bs` is enough. -/
structure DecodesAs (big : Bool) (p : List Pfx) (bs : List Byte) (i : Instr) : Prop where
  whole : ∀ rest, decode big (p.map Pfx.byte ++ (bs ++ rest)) = .instr i
  beginning : ∀ n < bs.length, decode big (p.map Pfx.byte ++ bs.take n) = .needMore

section
variable {big : Bool} {p : List Pfx} {op : Byte} {t : List Byte} {i : Instr}

theorem DecodesAs.twoByte (whole : ∀ rest, decode0F (addrWide big p) p op (t ++ rest) = .instr i)
    (beginning : ∀ n < t.length, decode0F (addrWide big p) p op (t.take n) = .needMore) :
    DecodesAs big p (0x0F :: op :: t) i := by
  refine ⟨fun rest => (decode_twoByte ..).trans (whole rest), fun n hn => ?_⟩
  match n with
  | 0 => rw [List.take_zero, List.append_nil, decode_noOpcode]
  | 1 => exact decode_escape0F big p
  | n + 2 => exact (decode_twoByte ..).trans (beginning n (by simpa using hn))

theorem DecodesAs.bare {f : List Pfx → Instr} (h : form0F op = .bare f) : DecodesAs big p [0x0F, op] (f p) :=
  .twoByte (fun rest => by simp only [decode0F, h]) nofun

theorem DecodesAs.modrm {f : List Pfx → RegNum → Rm → Instr} {x : Rm} (h : form0F op = .modrm f)
    (wf : x.wf (addrWide big p) = true) (d : RegNum) : DecodesAs big p (0x0F :: op :: x.encode d) (f p d x) := by
  refine .twoByte (fun rest => ?_) fun n hn => ?_
  · simp only [decode0F, h, takeRm_encode _ d x rest wf]
  · rw [rm_encode_length] at hn
    simp only [decode0F, h, takeRm_beginning d wf hn]

theorem DecodesAs.imm {f : RegNum → Option (List Pfx → RegNum → Byte → Instr)} {g : List Pfx → RegNum → Byte → Instr}
    {digit : RegNum} (h : form0F op = .group f) (hg : f digit = some g) (d : RegNum) (n : Byte) :
    DecodesAs big p [0x0F, op, fieldByte 3 digit d, n] (g p d n) := by
  refine .twoByte (fun rest => ?_) fun k hk => ?_
  · simp [decode0F, h, modField_fieldByte, regField_fieldByte, rmField_fieldByte, hg]
  · match k, hk with
    | 0, _ => simp [decode0F, h]
    | 1, _ => simp [decode0F, h, modField_fieldByte, regField_fieldByte, hg]

/-- The first byte of an operand holds the `reg` field. -/
theorem rm_encode_cons (reg : RegNum) (x : Rm) : ∃ b t, x.encode reg = b :: t ∧ regField b = reg := by
  cases x with
  | reg r => exact ⟨_, _, rfl, regField_fieldByte ..⟩
  | mem m => cases m <;> exact ⟨_, _, rfl, regField_fieldByte ..⟩

theorem DecodesAs.digit1 {f : List Pfx → Rm → Instr} {x : Rm} (h : form0F op = .digit1 f)
    (wf : x.wf (addrWide big p) = true) : DecodesAs big p (0x0F :: op :: x.encode 1) (f p x) := by
  obtain ⟨b, t, hx, digit⟩ := rm_encode_cons 1 x
  refine .twoByte (fun rest => ?_) fun n hn => ?_
  · have operand := takeRm_encode _ 1 x rest wf
    rw [hx, List.cons_append] at *
    simp only [decode0F, h, digit, if_true, operand]
  · rw [rm_encode_length] at hn
    have operand := takeRm_beginning 1 wf hn
    rw [hx] at *
    cases n with
    | zero => simp only [List.take_zero, decode0F, h]
    | succ n =>
      rw [List.take_succ_cons] at *
      simp only [decode0F, h, digit, if_true, operand]

theorem DecodesAs.stack {f : List Pfx → RegNum → Instr} {reg : RegNum} (hop : op = 0xDA ∨ op = 0xDB ∨ op = 0xDF)
    (h : formEsc op reg = some f) (n : RegNum) : DecodesAs big p [op, fieldByte 3 reg n] (f p n) := by
  have opcode : Pfx.ofByte op = none ∧ op ≠ 0x0F := by
    obtain rfl | rfl | rfl := hop <;> decide
  refine ⟨fun rest => ?_, fun k hk => ?_⟩
  · rw [List.cons_append, decode_oneByte big p opcode.1 opcode.2]
    simp only [decode1, if_pos hop, List.cons_append, modField_fieldByte, regField_fieldByte, rmField_fieldByte, h,
      if_true]
  · match k, hk with
    | 0, _ => rw [List.take_zero, List.append_nil, decode_noOpcode]
    | 1, _ =>
      rw [List.take_succ_cons, decode_oneByte big p opcode.1 opcode.2]
      simp only [decode1, if_pos hop]
      rfl

end

/-! ## Every instruction -/

/-- The decoder reads the bytes from the opcode on of every encodable instruction (30_encoding R164). -/
theorem decodesAs_shape {big : Bool} {i : Instr} (wf : i.parts.2.wf (addrWide big i.parts.1) = true) :
    DecodesAs big i.parts.1 i.shape.encode i := by
  cases i with
  | ud2 | wrmsr | rdtsc | rdmsr | rdpmc | emms | cpuid | rsm => exact .bare rfl
  | psrlwImm | psrawImm | psllwImm | psrldImm | psradImm | pslldImm | psrlqImm | psllqImm => exact .imm rfl rfl ..
  | cmpxchg8b p x => exact .digit1 rfl wf
  | fcmovb | fcmove | fcmovbe | fcmovu | fcmovnb | fcmovne | fcmovnbe | fcmovnu | fucomi | fcomi | fucomip | fcomip =>
    exact .stack (by decide) rfl _
  | _ => exact .modrm rfl wf _

/-- What follows the opcode, by the shape of the encoding. -/
def shapeBody : Shape → Body
  | .bare _ => .bare
  | .modrm _ _ x => .rm x
  | .imm _ _ _ _ => .imm
  | .stack _ _ _ => .stack

theorem parts_eq_shapeBody (i : Instr) : i.parts.2 = shapeBody i.shape := by
  cases i <;> rfl

theorem shape_encode_length (x : Shape) : x.encode.length = 2 + (shapeBody x).size := by
  cases x with
  | modrm op reg x => simp only [Shape.encode, List.length_cons, rm_encode_length, shapeBody, Body.size]; omega
  | bare | imm | stack => rfl

/-- An encoding is as long as the instruction (10_state R22). -/
theorem encode_length (i : Instr) : (encode i).length = i.length := by
  rw [encode, List.length_append, List.length_map, shape_encode_length, ← parts_eq_shapeBody, ← Nat.add_assoc]
  rfl

theorem wf_iff (big : Bool) (i : Instr) :
    i.wf big = true ↔ i.length ≤ 15 ∧ i.parts.2.wf (addrWide big i.parts.1) = true := by
  simp [Instr.wf]

/-- Decoding undoes encoding, whatever follows (30_encoding R140 to R166). -/
theorem decode_encode {big : Bool} {i : Instr} (h : i.wf big = true) (rest : List Byte) :
    decode big (encode i ++ rest) = .instr i := by
  rw [encode, List.append_assoc]
  exact (decodesAs_shape ((wf_iff big i).1 h).2).whole rest

/-- A proper beginning of an encoding is no instruction yet (30_encoding R154). -/
theorem decode_take_encode {big : Bool} {i : Instr} (h : i.wf big = true) {n : Nat} (hn : n < i.length) :
    decode big ((encode i).take n) = .needMore := by
  rw [← encode_length, encode, List.length_append, List.length_map] at hn
  rw [encode, List.take_append, ← List.map_take, List.length_map]
  obtain before | after := Nat.lt_or_ge n i.parts.1.length
  · rw [Nat.sub_eq_zero_of_le (Nat.le_of_lt before), List.take_zero, List.append_nil, decode_noOpcode]
  · rw [List.take_of_length_le after]
    exact (decodesAs_shape ((wf_iff big i).1 h).2).beginning _ (by omega)

end Sys2Proof.Laws

namespace Sys2Proof.Machine

/-! ## Fetching with paging off (20_memory R81, 30_encoding R154) -/

/-- The linear address of the byte that a fetch reads `k` bytes after EIP. -/
def State.fetchLin (s : State) (k : Nat) : Nat := (s.lin .cs (s.eip + BitVec.ofNat 32 k)).toNat

theorem fetchByte_flat {s : State} {k : Nat} (hp : s.pg = false)
    (check : s.segCheck .cs (s.eip + BitVec.ofNat 32 k) 1 false = none) (stop : s.stopAt (s.fetchLin k) = none) :
    s.fetchByte k = .ok (readByte s.physMem (s.fetchLin k)) s := by
  have addrs : s.segAddrs .cs (s.eip + BitVec.ofNat 32 k) 1 (s.access false) = .ok [s.fetchLin k] s := by
    simp only [State.segAddrs, State.access, check, linAddrs_flat _ _ _ _ hp, List.range_one, List.map_cons,
      List.map_nil, linByte, BitVec.add_zero, State.fetchLin]
  have noStop : [s.fetchLin k].findSome? s.stopAt = none := by simp [stop]
  rw [State.fetchByte, addrs, Res.ok_bind, State.readPhys, noStop]
  rfl

/-- The only check of CS that a fetch can fail is the limit: #GP(0) (60 R507). -/
theorem segCheck_fetch {s : State} {ea : Dword} {n : Nat} (h : s.segCheck .cs ea n false ≠ none) :
    s.segCheck .cs ea n false = some .gp := by
  have allowed : ¬ s.segDenied .cs false := by simp [State.segDenied]
  rw [segCheck_allowed allowed] at *
  split
  · rfl
  · rename_i within
    exact absurd (if_neg within) h

theorem fetchByte_beyond {s : State} {k : Nat} (h : s.segCheck .cs (s.eip + BitVec.ofNat 32 k) 1 false ≠ none) :
    s.fetchByte k = .exn .gp := by
  simp [State.fetchByte, State.segAddrs, State.access, segCheck_fetch h]

/-- These bytes can be fetched at CS:EIP. -/
def State.standing (s : State) (bs : List Byte) : Prop := ∀ k b, bs[k]? = some b → s.fetchByte k = .ok b s

theorem State.standing.left {s : State} {l r : List Byte} (h : s.standing (l ++ r)) : s.standing l := fun k b hb =>
  h k b (by rw [List.getElem?_append_left (List.getElem?_eq_some_iff.1 hb).1, hb])

theorem standing_flat {s : State} {bs : List Byte} (hp : s.pg = false)
    (h : ∀ k < bs.length, s.segCheck .cs (s.eip + BitVec.ofNat 32 k) 1 false = none ∧ s.stopAt (s.fetchLin k) = none ∧
      bs[k]? = some (readByte s.physMem (s.fetchLin k))) : s.standing bs := by
  intro k b hb
  obtain ⟨check, stop, byte⟩ := h k (List.getElem?_eq_some_iff.1 hb).1
  rw [byte] at hb
  cases hb
  exact fetchByte_flat hp check stop

/-- Bytes that do not complete an instruction, after those got before, are fetched, and the fetch goes on. -/
theorem fetchFrom_needMore {s : State} {got bs : List Byte} (h : s.standing (got ++ bs))
    (short : ∀ k < bs.length, decode s.bigCode (got ++ bs.take (k + 1)) = .needMore) (fuel : Nat) :
    fetchFrom (fuel + bs.length) s got = fetchFrom fuel s (got ++ bs) := by
  induction bs generalizing got with
  | nil => rw [List.append_nil]; rfl
  | cons b t ih =>
    have first : s.fetchByte got.length = .ok b s := h got.length b (by simp)
    have more : decode s.bigCode (got ++ [b]) = .needMore := short 0 (Nat.zero_lt_succ _)
    rw [List.append_cons] at h ⊢
    rw [List.length_cons, ← Nat.add_assoc, fetchFrom, first, Res.ok_bind, more]
    refine ih h fun k hk => ?_
    rw [← List.append_cons, ← List.take_succ_cons]
    exact short (k + 1) (Nat.succ_lt_succ hk)

/-- A fetch past bytes that are no whole instruction. -/
theorem fetch_needMore {s : State} {bs : List Byte} (h : s.standing bs) (le : bs.length ≤ 15)
    (short : ∀ k < bs.length, decode s.bigCode (bs.take (k + 1)) = .needMore) :
    s.fetch = fetchFrom (15 - bs.length) s bs := by
  have fetched := fetchFrom_needMore (got := []) h short (15 - bs.length)
  rwa [Nat.sub_add_cancel le, List.nil_append] at fetched

/-- The fetch of an instruction that stands at CS:EIP. -/
theorem fetch_standing {s : State} {i : Instr} (h : s.standing (encode i)) (wf : i.wf s.bigCode = true) :
    s.fetch = .ok (.instr i) s := by
  have le : i.length ≤ 15 := ((Laws.wf_iff ..).1 wf).1
  have len := Laws.encode_length i
  have whole : decode s.bigCode (encode i) = .instr i := by simpa using Laws.decode_encode wf []
  have short (n : Nat) (hn : n < i.length) := Laws.decode_take_encode wf hn
  obtain nil | ⟨l, b, e⟩ := List.eq_nil_or_concat (encode i)
  · simp [nil, decode, takePfx] at whole
  · rw [List.concat_eq_append] at e
    rw [e] at h whole len short
    simp only [List.length_append, List.length_singleton] at len
    have before := fetch_needMore h.left (by omega) fun k hk => by
      have := short (k + 1) (by omega)
      rwa [List.take_append_of_le_length hk] at this
    rw [before, show 15 - l.length = (15 - i.length) + 1 by omega, fetchFrom, h l.length b (by simp),
      Res.ok_bind, whole]

/-- Settles O55: bytes too short for an instruction use up the fifteen, or run into the limit; an encoding is read to
its end and no further. -/
theorem stepRunsBytes : Obligations.StepRunsBytes := by
  refine ⟨fun s bs hin hev hp h beyond => ?_, fun s i hin hev hp wf h => ?_⟩
  · have le : bs.length ≤ 15 := by omega
    have standing : s.standing bs := standing_flat hp fun k hk => by
      obtain ⟨check, stop, byte, -⟩ := h k hk
      exact ⟨check, stop, byte⟩
    have short : ∀ k < bs.length, decode s.bigCode (bs.take (k + 1)) = .needMore := fun k hk => by
      obtain ⟨-, -, -, more⟩ := h k hk
      exact more
    have fetched := fetch_needMore standing le short
    have fault : s.fetch = .exn .gp := by
      obtain all | ⟨room, outside⟩ := beyond
      · rw [fetched, all]
        rfl
      · rw [fetched, show 15 - bs.length = (14 - bs.length) + 1 by omega, fetchFrom,
          fetchByte_beyond outside, Res.exn_bind]
    rw [step_fetchRun hin hev, fetchRun, fault]
  · have fetched := fetch_standing (standing_flat hp (Laws.encode_length i ▸ h)) wf
    rw [step_fetchRun hin hev, fetchRun_instr fetched]

end Sys2Proof.Machine
end

section
namespace Sys2Proof.Laws

/-! # The encoding of the instructions (30_encoding) -/

/-- Settles O51: both halves are the decoder's laws about the shape of an encoding. -/
theorem decodeEncode : Obligations.DecodeEncode := fun _ _ rest wf =>
  ⟨decode_encode wf rest, fun _ hn => decode_take_encode wf hn⟩

/-- Settles O50: each word is the encoding of its instruction. -/
theorem decodeWords : Obligations.DecodeWords :=
  ⟨decode_encode (i := .paddb [] 1 (.reg 2)) rfl [],
    decode_encode (i := .psllwImm [] 1 4) rfl [],
    decode_encode (i := .movqLoad [] 0 (.mem (.sib 2 0 3 .none))) rfl [],
    decode_encode (i := .movdStore [] 1 (.mem (.based32 3 .none))) rfl [],
    decode_encode (i := .cmove [.opSize] 0 (.reg 3)) rfl [],
    decode_encode (i := .cmpxchg8b [.lock] (.mem (.based32 6 .none))) rfl [],
    decode_encode (i := .fcomi [] 1) rfl [],
    decode_encode (i := .emms []) rfl []⟩

/-! ## The bytes before the opcode (30_encoding R157) -/

theorem byte_of_ofByte {b : Byte} {q : Pfx} (h : Pfx.ofByte b = some q) : q.byte = b := by
  simpa using List.find?_some h

theorem map_takePfx_append (l : List Byte) : (takePfx l).1.map Pfx.byte ++ (takePfx l).2 = l := by
  induction l with
  | nil => rfl
  | cons b l ih =>
    simp only [takePfx]
    split
    · rw [List.map_cons, List.cons_append, ih, byte_of_ofByte ‹_›]
    · rfl

/-! ## What a reader read is spelled by the value it answers -/

/-- Where the reader `f` answers, after the bytes `pre`, its value fits and its bytes are `pre` and those `f` read. -/
def Spells {α : Type} (pre : List Byte) (f : List Byte → Option (α × List Byte)) (fits : α → Prop)
    (bytes : α → List Byte) : Prop :=
  ∀ l v t, f l = some (v, t) → fits v ∧ pre ++ l = bytes v ++ t

section
variable {α β : Type} {pre : List Byte} {f g : List Byte → Option (α × List Byte)} {fits : α → Prop}
  {bytes : α → List Byte}

/-- Nothing is left to read. -/
theorem Spells.pure {v : α} (hf : fits v) (h : bytes v = pre) : Spells pre (fun l => some (v, l)) fits bytes := by
  intro l w t e
  cases e
  exact ⟨hf, by rw [h]⟩

theorem Spells.ite {c : Prop} [Decidable c] (h : c → Spells pre f fits bytes) (h' : ¬ c → Spells pre g fits bytes) :
    Spells pre (fun l => if c then f l else g l) fits bytes := by
  split
  · exact h ‹_›
  · exact h' ‹_›

/-- What is read becomes part of a value that begins with `pre`. -/
theorem Spells.map {fits' : β → Prop} {bytes' : β → List Byte} {m : α → β} (h : Spells [] f fits bytes)
    (hm : ∀ v, fits v → fits' (m v) ∧ bytes' (m v) = pre ++ bytes v) :
    Spells pre (fun l => (f l).map fun r => (m r.1, r.2)) fits' bytes' := by
  intro l w t e
  obtain ⟨⟨v, u⟩, hv, hw⟩ := Option.map_eq_some_iff.1 e
  cases hw
  obtain ⟨fit, read⟩ := h l v u hv
  obtain ⟨fit', whole⟩ := hm v fit
  exact ⟨fit', by rw [whole, List.append_assoc, ← read, List.nil_append]⟩

/-- One byte is read first. -/
theorem Spells.cons {f : Byte → List Byte → Option (α × List Byte)} (hnil : g [] = none)
    (hcons : ∀ b l, g (b :: l) = f b l) (h : ∀ b, Spells (pre ++ [b]) (f b) fits bytes) : Spells pre g fits bytes := by
  intro l v t e
  cases l with
  | nil => simp [hnil] at e
  | cons b l =>
    rw [hcons] at e
    obtain ⟨fit, read⟩ := h b l v t e
    exact ⟨fit, by rw [← read, List.append_assoc, List.singleton_append]⟩

end

/-! ## Displacements (30_encoding R152) -/

/-- The bytes above the lowest part of a concatenation are those of the rest. -/
theorem extractLsb'_append_add {v w : Nat} (a : BitVec v) (b : BitVec w) (k n : Nat) :
    (a ++ b).extractLsb' (w + k) n = a.extractLsb' k n := by
  rw [BitVec.extractLsb'_append_eq_of_le (Nat.le_add_right w k), Nat.add_sub_cancel_left]

theorem bytes16_word16 (b0 b1 : Byte) : bytes16 (word16 b0 b1) = [b0, b1] := by
  simp only [bytes16, List.cons.injEq, and_true]
  exact ⟨BitVec.extractLsb'_append_eq_right, BitVec.extractLsb'_append_eq_left⟩

theorem bytes32_dword (b0 b1 b2 b3 : Byte) : bytes32 (dword b0 b1 b2 b3) = [b0, b1, b2, b3] := by
  have second : (b3 ++ b2 ++ b1 ++ b0).extractLsb' (8 + 0) 8 = b1 := by
    rw [extractLsb'_append_add, BitVec.extractLsb'_append_eq_right]
  have third : (b3 ++ b2 ++ b1 ++ b0).extractLsb' (8 + (8 + 0)) 8 = b2 := by
    rw [extractLsb'_append_add, extractLsb'_append_add, BitVec.extractLsb'_append_eq_right]
  have fourth : (b3 ++ b2 ++ b1 ++ b0).extractLsb' (8 + (8 + 8)) 8 = b3 := by
    rw [extractLsb'_append_add, extractLsb'_append_add, BitVec.extractLsb'_append_eq_left]
  simp only [bytes32, List.cons.injEq, and_true]
  exact ⟨BitVec.extractLsb'_append_eq_right, second, third, fourth⟩

theorem take16_spells : Spells [] take16 (fun _ => True) bytes16 :=
  .cons rfl (fun _ _ => rfl) fun b0 => .cons rfl (fun _ _ => rfl) fun b1 => .pure trivial (bytes16_word16 b0 b1)

theorem take32_spells : Spells [] take32 (fun _ => True) bytes32 :=
  .cons rfl (fun _ _ => rfl) fun b0 => .cons rfl (fun _ _ => rfl) fun b1 => .cons rfl (fun _ _ => rfl) fun b2 =>
    .cons rfl (fun _ _ => rfl) fun b3 => .pure trivial (bytes32_dword b0 b1 b2 b3)

theorem mod_eq_two {mod : BitVec 2} (h0 : mod ≠ 0) (h1 : mod ≠ 1) (h3 : mod ≠ 3) : mod = 2 := by
  revert mod
  decide

/-- Two fields that are not both the excluded ones, as `Mem.canonical` tests it. -/
theorem not_both_beq {α β : Type} [BEq α] [LawfulBEq α] [BEq β] [LawfulBEq β] {a a' : α} {b b' : β}
    (h : a = a' → b ≠ b') : (!(a == a' && b == b')) = true := by
  rw [Bool.not_eq_true', ← Bool.not_eq_true, Bool.and_eq_true, beq_iff_eq, beq_iff_eq]
  exact not_and.2 h

section
variable {mod : BitVec 2} (memory : mod ≠ 3)
include memory

theorem takeDisp16_spells : Spells [] (takeDisp16 mod) (fun d => d.mod = mod) Disp16.bytes :=
  .ite (fun h0 => .pure h0.symm rfl) fun h0 =>
    .ite (fun h1 => .cons rfl (fun _ _ => rfl) fun _ => .pure h1.symm rfl) fun h1 =>
      take16_spells.map fun _ _ => ⟨(mod_eq_two h0 h1 memory).symm, rfl⟩

theorem takeDisp32_spells : Spells [] (takeDisp32 mod) (fun d => d.mod = mod) Disp32.bytes :=
  .ite (fun h0 => .pure h0.symm rfl) fun h0 =>
    .ite (fun h1 => .cons rfl (fun _ _ => rfl) fun _ => .pure h1.symm rfl) fun h1 =>
      take32_spells.map fun _ _ => ⟨(mod_eq_two h0 h1 memory).symm, rfl⟩

/-! ## Memory forms (30_encoding R150, R151, R153) -/

theorem takeMem16_spells (reg rm : RegNum) :
    Spells [fieldByte mod reg rm] (takeMem16 mod rm) (fun m => (Rm.mem m).wf false = true) (Mem.encode reg) := by
  refine .ite (fun h => ?_) fun h => ?_
  · obtain ⟨rfl, rfl⟩ := h
    exact take16_spells.map fun _ _ => ⟨rfl, rfl⟩
  · refine (takeDisp16_spells memory).map fun d hd => ⟨?_, by rw [← hd]; rfl⟩
    have canonical : rm = 6 → d ≠ .none := by
      rintro rfl rfl
      exact h ⟨hd.symm, rfl⟩
    exact not_both_beq canonical

theorem takeMem32_spells (reg rm : RegNum) :
    Spells [fieldByte mod reg rm] (takeMem32 mod rm) (fun m => (Rm.mem m).wf true = true) (Mem.encode reg) := by
  refine .ite (fun sib => ?_) fun noSib => .ite (fun h => ?_) fun h => ?_
  · subst sib
    refine .cons rfl (fun _ _ => rfl) fun b => .ite (fun h => ?_) fun h => ?_
    · obtain ⟨rfl, base⟩ := h
      have hb : fieldByte (modField b) (regField b) 5 = b := base ▸ fieldByte_fields b
      exact take32_spells.map fun d _ => ⟨rfl, by simp only [Mem.encode, hb]; rfl⟩
    · refine (takeDisp32_spells memory).map fun d hd => ⟨?_, by simp only [Mem.encode, hd, fieldByte_fields]; rfl⟩
      have canonical : rmField b = 5 → d ≠ .none := by
        rintro base rfl
        exact h ⟨hd.symm, base⟩
      exact not_both_beq canonical
  · obtain ⟨rfl, rfl⟩ := h
    exact take32_spells.map fun _ _ => ⟨rfl, rfl⟩
  · refine (takeDisp32_spells memory).map fun d hd => ⟨?_, by rw [← hd]; rfl⟩
    have canonical : rm = 5 → d ≠ .none := by
      rintro rfl rfl
      exact h ⟨hd.symm, rfl⟩
    exact Bool.and_eq_true_iff.2 ⟨bne_iff_ne.2 noSib, not_both_beq canonical⟩

end

theorem fieldByte_register {b : Byte} (h : modField b = 3) : fieldByte 3 (regField b) (rmField b) = b := by
  rw [← h, fieldByte_fields]

theorem takeRm_spells {wide : Bool} {l t : List Byte} {d : RegNum} {x : Rm} (h : takeRm wide l = some (d, x, t)) :
    x.wf wide = true ∧ l = x.encode d ++ t := by
  cases l with
  | nil => contradiction
  | cons b l =>
    simp only [takeRm] at h
    split at h
    · rename_i register
      cases h
      exact ⟨rfl, by rw [Rm.encode, fieldByte_register register]; rfl⟩
    · rename_i memory
      obtain ⟨⟨m, u⟩, hm, hx⟩ := Option.map_eq_some_iff.1 h
      cases hx
      have form : Spells [b]
          (fun l => if wide then takeMem32 (modField b) (rmField b) l else takeMem16 (modField b) (rmField b) l)
          (fun m => (Rm.mem m).wf wide = true) (Mem.encode (regField b)) := by
        have wide32 := takeMem32_spells memory (regField b) (rmField b)
        have wide16 := takeMem16_spells memory (regField b) (rmField b)
        rw [fieldByte_fields] at wide32 wide16
        cases wide with
        | true => exact wide32
        | false => exact wide16
      exact form l m u hm

/-! ## The rows of the opcode map (30_encoding R164, R165) -/

/-- The instruction of one digit of an immediate shift has the encoding row of opcode byte `op` and that digit. -/
def digitSpells (op : Byte) (digit : RegNum) (g : List Pfx → RegNum → Byte → Instr) : Prop :=
  ∀ p d b, (g p d b).parts = (p, .imm) ∧ (g p d b).shape = .imm op digit d b

/-- Each instruction a form gives has the encoding row of opcode byte `op`. -/
def formSpells (op : Byte) : Form → Prop
  | .bare f => ∀ p, (f p).parts = (p, .bare) ∧ (f p).shape = .bare op
  | .modrm f => ∀ p d x, (f p d x).parts = (p, .rm x) ∧ (f p d x).shape = .modrm op d x
  | .group f => ∀ digit g, f digit = some g → digitSpells op digit g
  | .digit1 f => ∀ p x, (f p x).parts = (p, .rm x) ∧ (f p x).shape = .modrm op 1 x
  | .move _ | .invalid | .outside => True

/-- One digit of a group, and then the others. -/
theorem digitSpells.ite {op : Byte} {digit c : RegNum} {g g' : List Pfx → RegNum → Byte → Instr}
    {others : Option (List Pfx → RegNum → Byte → Instr)} (row : digitSpells op c g)
    (rest : others = some g' → digitSpells op digit g') (h : (if digit = c then some g else others) = some g') :
    digitSpells op digit g' := by
  split at h
  · subst digit
    cases h
    exact row
  · exact rest h

theorem group71_spells : formSpells 0x71 (.group group71) := fun _ _ =>
  .ite (fun _ _ _ => ⟨rfl, rfl⟩) (.ite (fun _ _ _ => ⟨rfl, rfl⟩) (.ite (fun _ _ _ => ⟨rfl, rfl⟩) nofun))

theorem group72_spells : formSpells 0x72 (.group group72) := fun _ _ =>
  .ite (fun _ _ _ => ⟨rfl, rfl⟩) (.ite (fun _ _ _ => ⟨rfl, rfl⟩) (.ite (fun _ _ _ => ⟨rfl, rfl⟩) nofun))

theorem group73_spells : formSpells 0x73 (.group group73) := fun _ _ =>
  .ite (fun _ _ _ => ⟨rfl, rfl⟩) (.ite (fun _ _ _ => ⟨rfl, rfl⟩) nofun)

/-- Every row of the opcode map is its instruction's encoding row, one run of rows of a kind after the other. -/
theorem form0F_spells (op : Byte) : formSpells op (form0F op) := by
  suffices row : formSpells (BitVec.ofNat 8 op.toNat) (form0F op) by
    rwa [BitVec.ofNat_toNat, BitVec.setWidth_eq] at row
  unfold form0F
  generalize op.toNat = n
  split
  -- moves of the control and debug registers, `0F 24` and `0F 26`
  iterate 6 exact trivial
  -- UD2 to RDPMC
  iterate 5 exact fun _ => ⟨rfl, rfl⟩
  -- CMOVcc, then `0F 60` to `0F 6F`
  iterate 30 exact fun _ _ _ => ⟨rfl, rfl⟩
  · exact group71_spells
  · exact group72_spells
  · exact group73_spells
  -- PCMPEQ
  iterate 3 exact fun _ _ _ => ⟨rfl, rfl⟩
  -- EMMS
  · exact fun _ => ⟨rfl, rfl⟩
  -- the stores of MOVD and MOVQ
  iterate 2 exact fun _ _ _ => ⟨rfl, rfl⟩
  -- CPUID, RSM
  iterate 2 exact fun _ => ⟨rfl, rfl⟩
  -- CMPXCHG8B
  · exact fun _ _ => ⟨rfl, rfl⟩
  -- `0F D1` to `0F FE`
  iterate 29 exact fun _ _ _ => ⟨rfl, rfl⟩
  -- every other byte
  · split <;> exact trivial

/-- The same of the FPU forms (30_encoding R165). -/
theorem formEsc_spells {esc : Byte} {reg : RegNum} {f : List Pfx → RegNum → Instr} (h : formEsc esc reg = some f)
    (p : List Pfx) (n : RegNum) : (f p n).parts = (p, .stack) ∧ (f p n).shape = .stack esc reg n := by
  rw [← BitVec.setWidth_eq esc, ← BitVec.ofNat_toNat, ← BitVec.setWidth_eq reg, ← BitVec.ofNat_toNat]
  unfold formEsc at h
  generalize esc.toNat = m, reg.toNat = k at h ⊢
  split at h <;> cases h <;> exact ⟨rfl, rfl⟩

/-! ## What the decoder read -/

/-- `i` has the bytes `p` before its opcode, its operand is encodable, and `l` begins with its bytes from the opcode
on. -/
structure BeginsWith (wide : Bool) (p : List Pfx) (l : List Byte) (i : Instr) : Prop where
  before : i.parts.1 = p
  body : i.parts.2.wf wide = true
  bytes : i.shape.encode <+: l

theorem BeginsWith.of_row {wide : Bool} {p : List Pfx} {l : List Byte} {i : Instr} {body : Body} {x : Shape}
    (row : i.parts = (p, body) ∧ i.shape = x) (wf : body.wf wide = true) (bytes : x.encode <+: l) :
    BeginsWith wide p l i := by
  obtain ⟨parts, rfl⟩ := row
  exact ⟨by rw [parts], by rw [parts]; exact wf, bytes⟩

section
variable {wide : Bool} {p : List Pfx} {op : Byte} {t : List Byte} {i : Instr}

/-- An immediate shift: ModR/M with `mod = 11` and an assigned digit, then the count (30_encoding R168). -/
theorem decode0F_group {f : RegNum → Option (List Pfx → RegNum → Byte → Instr)} (form : form0F op = .group f)
    (h : decode0F wide p op t = .instr i) :
    ∃ b n v g, t = b :: n :: v ∧ modField b = 3 ∧ f (regField b) = some g ∧ i = g p (rmField b) n := by
  simp only [decode0F, form] at h
  split at h
  · contradiction
  split at h
  · split at h
    · split at h
      · cases h
        exact ⟨_, _, _, _, rfl, ‹_›, ‹_›, rfl⟩
      · contradiction
    · contradiction
  · contradiction

/-- CMPXCHG8B: digit 1 (30_encoding R169). -/
theorem decode0F_digit1 {f : List Pfx → Rm → Instr} (form : form0F op = .digit1 f)
    (h : decode0F wide p op t = .instr i) : ∃ x u, takeRm wide t = some (1, x, u) ∧ i = f p x := by
  simp only [decode0F, form] at h
  split at h
  · contradiction
  split at h
  · rename_i b t' digit
    split at h
    · rename_i d x u operand
      cases h
      obtain ⟨c, v, bytes, field⟩ := rm_encode_cons d x
      have read := (takeRm_spells operand).2
      rw [bytes, List.cons_append, List.cons.injEq] at read
      obtain ⟨rfl, -⟩ := read
      rw [← field, digit] at operand
      exact ⟨x, u, operand, rfl⟩
    · contradiction
  · contradiction

/-- A move of a control or debug register is none of the opcode table. -/
theorem decode0F_move {f : RegNum → RegNum → Option BaseOp} (form : form0F op = .move f) :
    decode0F wide p op t ≠ .instr i := by
  intro h
  simp only [decode0F, form] at h
  split at h
  · contradiction
  split at h
  · split at h <;> contradiction
  · contradiction

theorem decode0F_instr (h : decode0F wide p op t = .instr i) : BeginsWith wide p (0x0F :: op :: t) i := by
  have row := form0F_spells op
  cases form : form0F op with rw [form] at row
  | bare f =>
    simp only [decode0F, form] at h
    cases h
    exact .of_row (row p) rfl ⟨t, rfl⟩
  | modrm f =>
    simp only [decode0F, form] at h
    split at h
    · rename_i d x u operand
      cases h
      obtain ⟨wf, rfl⟩ := takeRm_spells operand
      exact .of_row (row p d x) wf ⟨u, rfl⟩
    · contradiction
  | group f =>
    obtain ⟨b, n, v, g, rfl, register, digit, rfl⟩ := decode0F_group form h
    exact .of_row (row _ g digit p (rmField b) n) rfl ⟨v, by rw [Shape.encode, fieldByte_register register]; rfl⟩
  | digit1 f =>
    obtain ⟨x, u, operand, rfl⟩ := decode0F_digit1 form h
    obtain ⟨wf, rfl⟩ := takeRm_spells operand
    exact .of_row (row p x) wf ⟨u, rfl⟩
  | move f => exact absurd h (decode0F_move form)
  | invalid | outside =>
    simp only [decode0F, form] at h
    contradiction

theorem decode1_instr (h : decode1 p op t = .instr i) : BeginsWith wide p (op :: t) i := by
  unfold decode1 at h
  split at h
  · split at h
    · contradiction
    split at h
    · rename_i b u register
      split at h
      · rename_i f form
        cases h
        exact .of_row (formEsc_spells form p (rmField b)) rfl
          ⟨u, by rw [Shape.encode, fieldByte_register register]; rfl⟩
      · contradiction
    · contradiction
  -- CLI, STI, HLT and the flag operations, then INT n
  · iterate 4
      split at h
      · contradiction
    split at h
    · split at h <;> contradiction
    · contradiction

end

/-- What decodes has an encodable operand, and the bytes begin with its encoding (30_encoding R154). -/
theorem decode_instr {big : Bool} {bs : List Byte} {i : Instr} (h : decode big bs = .instr i) :
    i.parts.2.wf (addrWide big i.parts.1) = true ∧ encode i <+: bs := by
  simp only [decode] at h
  split at h
  · contradiction
  rename_i op t opcode
  have read : BeginsWith (addrWide big (takePfx bs).1) (takePfx bs).1 (op :: t) i := by
    split at h
    · rename_i escape
      subst escape
      split at h
      · contradiction
      · exact decode0F_instr h
    · exact decode1_instr h
  obtain ⟨before, body, u, bytes⟩ := read
  have whole := map_takePfx_append bs
  rw [opcode, ← bytes, ← List.append_assoc] at whole
  rw [encode, before]
  exact ⟨body, u, whole⟩

/-- Settles O52: an encoding is a beginning of the bytes read, and it is as long as the instruction. -/
theorem encodeDecode : Obligations.EncodeDecode := by
  intro big bs i h short
  obtain ⟨wf, bytes⟩ := decode_instr h
  exact ⟨(wf_iff big i).2 ⟨short, wf⟩, by rw [← encode_length, ← List.prefix_iff_eq_take]; exact bytes⟩

/-! ## Bytes and digits that stand for nothing (30_encoding R167 to R170) -/

section
variable {wide : Bool} {p : List Pfx} {op b : Byte} {t : List Byte}

theorem decode0F_unassigned (h : form0F op = .invalid) : decode0F wide p op t = .invalid := by
  simp only [decode0F, h]

/-- An immediate shift wants `mod = 11` and one of its digits (30_encoding R168). -/
theorem decode0F_badGroup {f : RegNum → Option (List Pfx → RegNum → Byte → Instr)} (form : form0F op = .group f)
    (h : modField b ≠ 3 ∨ f (regField b) = none) : decode0F wide p op (b :: t) = .invalid := by
  simp only [decode0F, form]
  obtain memory | digit := h
  · rw [if_neg memory]
  · rw [digit]
    exact ite_self _

theorem decode0F_badDigit1 {f : List Pfx → Rm → Instr} (form : form0F op = .digit1 f) (h : regField b ≠ 1) :
    decode0F wide p op (b :: t) = .invalid := by
  simp only [decode0F, form, if_neg h]

end

/-- The digits each immediate-shift byte has, the others being unassigned (30_encoding R168). -/
theorem form0F_shift {op : Byte} (h : op ∈ ([0x71, 0x72, 0x73] : List Byte)) :
    ∃ f, form0F op = .group f ∧ ∀ d, (d ∉ ([2, 4, 6] : List RegNum) ∨ op = 0x73 ∧ d = 4) → f d = none := by
  simp only [List.mem_cons, List.not_mem_nil, or_false] at h
  obtain rfl | rfl | rfl := h
  · exact ⟨group71, rfl, by decide⟩
  · exact ⟨group72, rfl, by decide⟩
  · exact ⟨group73, rfl, by decide⟩

/-- Settles O53: the opcode map has no row for these bytes and digits. -/
theorem reservedOpcodes : Obligations.ReservedOpcodes := by
  refine ⟨fun big p t => ⟨fun op hop => ?_, fun op hop b h => ?_, fun b h => ?_⟩, fun _ => rfl⟩
  all_goals rw [decode_twoByte]
  · refine decode0F_unassigned ?_
    revert op
    iterate 30 refine List.forall_mem_cons.2 ⟨rfl, ?_⟩
    exact nofun
  · obtain ⟨f, form, unassigned⟩ := form0F_shift hop
    exact decode0F_badGroup form (h.imp_right (unassigned _))
  · exact decode0F_badDigit1 (f := .cmpxchg8b) rfl h

end Sys2Proof.Laws

namespace Sys2Proof.Machine

/-! ## LOCK (30_encoding R162) -/

section
variable {p : List Pfx} (h : locked p = true)
include h

theorem plainFrame_locked (op : State → Res Unit) (s : State) : plainFrame p op s = takeException .ud s := by
  simp only [plainFrame, h, if_true, Res.finish_exn]

theorem mmxFrame_locked (tags : Word16) (len : Nat) (op : State → Res Unit) (s : State) :
    mmxFrame p tags len op s = takeException .ud s := by
  simp only [mmxFrame, State.mmxFault, h, Bool.true_or, if_true, Res.finish_exn]

theorem mmxShiftImm_locked (f : Qword → Nat → Qword) (d : RegNum) (n : Byte) (s : State) :
    mmxShiftImm f p d n s = takeException .ud s := mmxFrame_locked h ..

theorem cmov_locked (cc : Nat) (d : RegNum) (x : Rm) (s : State) : cmov cc p d x s = takeException .ud s := by
  simp only [cmov, h, Bool.true_or, if_true, Res.finish_exn]

theorem fpuFrame_locked (op : State → State) (s : State) : fpuFrame p op s = takeException .ud s := by
  simp only [fpuFrame, h, Bool.true_or, if_true, Res.finish_exn]

theorem execRsm_locked (s : State) : execRsm p s = takeException .ud s := by
  have lock : p.contains .lock = true := h
  simp only [execRsm, lock, if_true, Res.finish_exn]

end

/-- CMPXCHG8B alone may follow LOCK: every other instruction's frame checks it first. -/
theorem exec_locked {i : Instr} (h : locked i.parts.1 = true) (other : ∀ p x, i ≠ .cmpxchg8b p x) (s : State) :
    exec i s = takeException .ud s := by
  unfold exec
  cases i with
  | cmpxchg8b p x => exact absurd rfl (other p x)
  | rsm => exact execRsm_locked h s
  | ud2 | wrmsr | rdtsc | rdmsr | rdpmc | cpuid => exact plainFrame_locked h _ s
  | cmovo | cmovno | cmovb | cmovae | cmove | cmovne | cmovbe | cmova | cmovs | cmovns | cmovp | cmovnp | cmovl | cmovge
  | cmovle | cmovg => exact cmov_locked h _ _ _ s
  | fcmovb | fcmove | fcmovbe | fcmovu | fcmovnb | fcmovne | fcmovnbe | fcmovnu | fucomi | fcomi | fucomip | fcomip =>
    exact fpuFrame_locked h _ s
  | psrlwImm | psrawImm | psllwImm | psrldImm | psradImm | pslldImm | psrlqImm | psllqImm =>
    exact mmxShiftImm_locked h _ _ _ s
  | _ => exact mmxFrame_locked h _ _ _ s

theorem exec_cmpxchg8b (p : List Pfx) (m : Mem) (s : State) :
    exec (.cmpxchg8b p (.mem m)) s =
      ((compareExchange p m s).bind fun _ t => .ok () (t.advance (rmLength p (.mem m)))).finish s := rfl

/-- LOCK names no segment and the exchange asks for nothing else in `p`. -/
theorem compareExchange_lock (p : List Pfx) (m : Mem) (s : State) :
    compareExchange (.lock :: p) m s = compareExchange p m s := rfl

/-- Once the destination is found and can be read nothing raises an exception. -/
theorem compareExchange_raises {p : List Pfx} {m : Mem} {s u : State} {as : List Nat} {bs : List Byte}
    (found : s.operandAddrs (operandSeg p m) (s.ea m) 8 true = .ok as u) (read : u.readPhys as = .ok bs u) :
    (compareExchange p m s).raises fun _ => False := by
  simp only [compareExchange, found, read, Res.ok_bind]
  exact .ite writePhys_raises .ok

theorem advance_succ (s : State) (n : Nat) :
    s.advance (n + 1) = { s.advance n with eip := (s.advance n).eip + 1 } := by
  simp only [State.advance, BitVec.ofNat_add, BitVec.add_assoc]
  rfl

/-- Settles O34: the frames check LOCK first; before CMPXCHG8B it is one byte more, whatever the exchange did. -/
theorem lockPrefix : Obligations.LockPrefix := by
  refine fun i s => ⟨fun h other => exec_locked h other s, ?_⟩
  rintro p m t run ⟨as, u, bs, found, read⟩
  rw [exec_cmpxchg8b] at *
  rw [compareExchange_lock]
  cases exchange : compareExchange p m s with
  | ok a v =>
    rw [exchange] at run
    cases run
    have longer : rmLength (.lock :: p) (.mem m) = rmLength p (.mem m) + 1 := by
      simp only [rmLength, List.length_cons]
      omega
    rw [longer, Res.ok_bind, Res.finish_ok, advance_succ]
  | exn e => exact (compareExchange_raises found read e exchange).elim
  | stop x =>
    rw [exchange] at run
    cases x <;> contradiction

end Sys2Proof.Machine
end

section
namespace Sys2Proof.Machine

/-! # MMX arithmetic and the checks of every MMX instruction (40_mmx_arithmetic) -/

/-! ## Lanes (00_scope R15) -/

/-- The width of the lanes 0 to `n`. -/
def joinedWidth (w : Nat) : Nat → Nat
  | 0 => w
  | n + 1 => joinedWidth w n + w

/-- The lanes 0 to `n`, lane 0 lowest: what `packB`, `packW` and `packD` are for one width and number of lanes each. -/
def joined {w : Nat} (f : Nat → BitVec w) : (n : Nat) → BitVec (joinedWidth w n)
  | 0 => f 0
  | n + 1 => joined (fun k => f (k + 1)) n ++ f 0

theorem extractLsb'_joined {w : Nat} (n : Nat) : ∀ (f : Nat → BitVec w) (k : Nat), k ≤ n →
    (joined f n).extractLsb' (w * k) w = f k := by
  induction n with
  | zero =>
    intro f k h
    obtain rfl := Nat.le_zero.1 h
    exact BitVec.extractLsb'_eq_self
  | succ n ih =>
    rintro f (_ | k) h
    · exact BitVec.extractLsb'_append_eq_right
    · refine (BitVec.extractLsb'_append_eq_of_le (Nat.le_mul_of_pos_right w k.succ_pos)).trans ?_
      rw [Nat.mul_succ, Nat.add_sub_cancel]
      exact ih _ k (Nat.le_of_succ_le_succ h)

theorem packB_eq_joined (f : Nat → Byte) : packB f = joined f 7 := rfl

theorem packW_eq_joined (f : Nat → Word16) : packW f = joined f 3 := rfl

theorem packD_eq_joined (f : Nat → Dword) : packD f = joined f 1 := rfl

section
variable {k : Nat}

theorem laneB_packB (f : Nat → Byte) (h : k < 8) : laneB (packB f) k = f k := by
  rw [packB_eq_joined]
  exact extractLsb'_joined 7 f k (Nat.le_of_lt_succ h)

theorem laneW_packW (f : Nat → Word16) (h : k < 4) : laneW (packW f) k = f k := by
  rw [packW_eq_joined]
  exact extractLsb'_joined 3 f k (Nat.le_of_lt_succ h)

theorem laneD_packD (f : Nat → Dword) (h : k < 2) : laneD (packD f) k = f k := by
  rw [packD_eq_joined]
  exact extractLsb'_joined 1 f k (Nat.le_of_lt_succ h)

theorem laneB_mapB (f : Byte → Byte → Byte) (a b : Qword) (h : k < 8) :
    laneB (mapB f a b) k = f (laneB a k) (laneB b k) := laneB_packB _ h

theorem laneW_mapW (f : Word16 → Word16 → Word16) (a b : Qword) (h : k < 4) :
    laneW (mapW f a b) k = f (laneW a k) (laneW b k) := laneW_packW _ h

theorem laneD_mapD (f : Dword → Dword → Dword) (a b : Qword) (h : k < 2) :
    laneD (mapD f a b) k = f (laneD a k) (laneD b k) := laneD_packD _ h

end

/-! ## Exact results narrowed (00_scope R9, R10) -/

section
variable {w : Nat}

theorem addWrap_eq (a b : BitVec w) : addWrap a b = a + b := by
  simp only [addWrap, trunc, unsigned, BitVec.ofInt_add, BitVec.ofInt_natCast, BitVec.ofNat_toNat, BitVec.setWidth_eq]

theorem subWrap_eq (a b : BitVec w) : subWrap a b = a - b := by
  simp only [subWrap, trunc, unsigned, Int.sub_eq_add_neg, BitVec.ofInt_add, BitVec.ofInt_neg, BitVec.ofInt_natCast,
    BitVec.ofNat_toNat, BitVec.setWidth_eq, BitVec.sub_eq_add_neg]

theorem toInt_satS (hw : 0 < w) (i : Int) :
    (satS w i).toInt = clampInt (-(2 ^ (w - 1))) (2 ^ (w - 1) - 1) i := by
  have pos : (0 : Int) < 2 ^ (w - 1) := Int.pow_pos (by decide)
  unfold satS trunc clampInt
  split
  · rw [BitVec.toInt_ofInt_eq_self hw] <;> omega
  split <;> rw [BitVec.toInt_ofInt_eq_self hw] <;> omega

theorem toNat_satU (i : Int) : ((satU w i).toNat : Int) = clampInt 0 ((2 ^ w : Nat) - 1) i := by
  have pos : (0 : Int) < 2 ^ w := Int.pow_pos (by decide)
  have inRange {n : Int} (h : 0 ≤ n) (h' : n < 2 ^ w) : ((BitVec.ofInt w n).toNat : Int) = n := by
    rw [BitVec.toNat_ofInt, Int.natCast_pow, Int.cast_ofNat_Int, Int.emod_eq_of_lt h h', Int.toNat_of_nonneg h]
  rw [Int.natCast_pow, Int.cast_ofNat_Int]
  unfold satU trunc clampInt
  split
  · have zero : ((0 : BitVec w).toNat : Int) = 0 := by simp
    omega
  split <;> rw [inRange] <;> omega

theorem toNat_addSatU (a b : BitVec w) : (addSatU a b).toNat = min (2 ^ w - 1) (a.toNat + b.toNat) := by
  have clamped := toNat_satU (w := w) (unsigned a + unsigned b)
  have pos : 0 < 2 ^ w := Nat.two_pow_pos w
  rw [← addSatU, clampInt, unsigned, unsigned] at clamped
  omega

theorem toNat_subSatU (a b : BitVec w) : (subSatU a b).toNat = a.toNat - b.toNat := by
  have clamped := toNat_satU (w := w) (unsigned a - unsigned b)
  have lt : a.toNat < 2 ^ w := a.isLt
  rw [← subSatU, clampInt, unsigned, unsigned] at clamped
  omega

end

/-! ## Products (40 R221 to R223) -/

/-- The product of two words never leaves the range of a signed doubleword. -/
theorem toInt_mulSigned (a b : Word16) : (mulSigned a b).toInt = a.toInt * b.toInt := by
  have le : a.toInt * b.toInt ≤ 2 ^ 30 := BitVec.toInt_mul_toInt_le
  have ge : -(2 ^ 30) ≤ a.toInt * b.toInt := BitVec.le_toInt_mul_toInt
  rw [mulSigned, trunc, BitVec.toInt_ofInt_eq_self (by decide)] <;> omega

theorem mulSigned_eq (a b : Word16) : mulSigned a b = a.signExtend 32 * b.signExtend 32 := BitVec.ofInt_mul ..

theorem toInt_upperHalf (v : Dword) : (v.extractLsb' 16 16).toInt = v.toInt.fdiv 65536 := by
  have lt : v.toNat < 2 ^ 32 := v.isLt
  rw [BitVec.toInt_extractLsb', BitVec.toInt_eq_toNat_bmod, Nat.shiftRight_eq_div_pow]
  simp only [Int.fdiv_eq_ediv, Int.bmod_def]
  omega

theorem setWidth_signExtend (a : Word16) : (a.signExtend 32).setWidth 16 = a := by
  refine BitVec.eq_of_getLsbD_eq fun i hi => ?_
  have wide : i < 32 := by omega
  rw [BitVec.getLsbD_setWidth, BitVec.getLsbD_signExtend]
  simp [hi, wide]

theorem toInt_mulHigh (a b : Word16) : (mulHigh a b).toInt = (a.toInt * b.toInt).fdiv 65536 := by
  rw [mulHigh, toInt_upperHalf, toInt_mulSigned]

theorem mulLow_eq (a b : Word16) : mulLow a b = a * b := by
  rw [mulLow, mulSigned_eq, ← BitVec.setWidth_eq_extractLsb' (by decide), BitVec.setWidth_mul _ _ (by decide),
    setWidth_signExtend, setWidth_signExtend]

theorem laneD_mulAddPairs (a b : Qword) {j : Nat} (h : j < 2) :
    laneD (mulAddPairs a b) j = mulSigned (laneW a (2 * j)) (laneW b (2 * j))
      + mulSigned (laneW a (2 * j + 1)) (laneW b (2 * j + 1)) := by
  rw [mulAddPairs, laneD_packD _ h]
  exact BitVec.ofInt_add ..

/-! ## Two-operand instructions that complete (40 R200) -/

theorem PagingOnly.mm {s t : State} (h : PagingOnly s t) (d : RegNum) : t.mm d = s.mm d := by
  rw [State.mm, h.fields]
  rfl

theorem mmxOp_leaves {s t : State} {p : List Pfx} {d : RegNum} {x : Rm} {v : Qword} {P : Qword → Prop}
    (f : Qword → Qword → Qword) (runs : mmxRuns s p) (read : s.srcMm p x 8 = .ok v t) (meets : P (f (s.mm d) v)) :
    Leaves (mmxOp f p d x s) t d (rmLength p x) P := by
  rw [mmxOp_runs f runs read, (srcMm_ok read).mm]
  exact ⟨_, rfl, meets⟩

/-- Settles O1: a lane keeps the exact sum or difference modulo its width. -/
theorem wraparoundSums : Obligations.WraparoundSums := by
  refine fun p d x s t v runs read => ⟨srcMm_ok read, ?_, ?_, ?_, ?_, ?_, ?_⟩
  · exact mmxOp_leaves (mapB addWrap) runs read fun k h => (laneB_mapB _ _ _ h).trans (addWrap_eq ..)
  · exact mmxOp_leaves (mapW addWrap) runs read fun k h => (laneW_mapW _ _ _ h).trans (addWrap_eq ..)
  · exact mmxOp_leaves (mapD addWrap) runs read fun k h => (laneD_mapD _ _ _ h).trans (addWrap_eq ..)
  · exact mmxOp_leaves (mapB subWrap) runs read fun k h => (laneB_mapB _ _ _ h).trans (subWrap_eq ..)
  · exact mmxOp_leaves (mapW subWrap) runs read fun k h => (laneW_mapW _ _ _ h).trans (subWrap_eq ..)
  · exact mmxOp_leaves (mapD subWrap) runs read fun k h => (laneD_mapD _ _ _ h).trans (subWrap_eq ..)

/-- Settles O2: saturation to the signed range of a lane is the clamp of the exact integer. -/
theorem saturateSigned : Obligations.SaturateSigned := by
  refine fun p d x s t v runs read => ⟨srcMm_ok read, ?_, ?_, ?_, ?_⟩
  · refine mmxOp_leaves (mapB addSatS) runs read fun k h => ?_
    rw [laneB_mapB _ _ _ h]
    exact toInt_satS (by decide) _
  · refine mmxOp_leaves (mapW addSatS) runs read fun k h => ?_
    rw [laneW_mapW _ _ _ h]
    exact toInt_satS (by decide) _
  · refine mmxOp_leaves (mapB subSatS) runs read fun k h => ?_
    rw [laneB_mapB _ _ _ h]
    exact toInt_satS (by decide) _
  · refine mmxOp_leaves (mapW subSatS) runs read fun k h => ?_
    rw [laneW_mapW _ _ _ h]
    exact toInt_satS (by decide) _

/-- Settles O3: of the two ends of the unsigned range a sum can pass the upper one only, a difference the lower. -/
theorem saturateUnsigned : Obligations.SaturateUnsigned := by
  refine fun p d x s t v runs read => ⟨srcMm_ok read, ?_, ?_, ?_, ?_⟩
  · refine mmxOp_leaves (mapB addSatU) runs read fun k h => ?_
    rw [laneB_mapB _ _ _ h]
    exact toNat_addSatU ..
  · refine mmxOp_leaves (mapW addSatU) runs read fun k h => ?_
    rw [laneW_mapW _ _ _ h]
    exact toNat_addSatU ..
  · refine mmxOp_leaves (mapB subSatU) runs read fun k h => ?_
    rw [laneB_mapB _ _ _ h]
    exact toNat_subSatU ..
  · refine mmxOp_leaves (mapW subSatU) runs read fun k h => ?_
    rw [laneW_mapW _ _ _ h]
    exact toNat_subSatU ..

/-- Settles O4: the signed product of two words is exact in 32 bits. -/
theorem multiplyExactProducts : Obligations.MultiplyExactProducts := by
  refine fun p d x s t v runs read => ⟨srcMm_ok read, ?_, ?_, ?_⟩
  · refine mmxOp_leaves (mapW mulHigh) runs read fun k h => ?_
    rw [laneW_mapW _ _ _ h, toInt_mulHigh]
  · refine mmxOp_leaves (mapW mulLow) runs read fun k h => ?_
    rw [laneW_mapW _ _ _ h, mulLow_eq]
  · refine mmxOp_leaves mulAddPairs runs read fun j h => ?_
    rw [laneD_mulAddPairs _ _ h, mulSigned_eq, mulSigned_eq]

/-! ## The checks every MMX instruction makes first (40 R200) -/

section
variable {s : State} {p : List Pfx}

theorem mmxFault_ud (h : locked p = true ∨ s.cfg.mmx = false ∨ s.em = true) : s.mmxFault p = some .ud := by
  obtain lock | feature | em := h
  · simp [State.mmxFault, lock]
  · simp [State.mmxFault, feature]
  · simp [State.mmxFault, em]

theorem mmxFrame_fault {e : Exn} (h : s.mmxFault p = some e) (tags : Word16) (len : Nat) (op : State → Res Unit) :
    mmxFrame p tags len op s = takeException e s := by
  simp only [mmxFrame, h, Res.finish_exn]

variable (lock : locked p = false) (feature : s.cfg.mmx = true) (em : s.em = false)
include lock feature em

theorem mmxFault_nm (ts : s.ts = true) : s.mmxFault p = some .nm := by
  simp [State.mmxFault, lock, feature, em, ts]

theorem mmxFault_mf (ts : s.ts = false) (pending : s.fpuPending = true) : s.mmxFault p = some .mf := by
  simp [State.mmxFault, lock, feature, em, ts, pending]

end

/-- Every MMX instruction is some operation behind the checks of 40 R200. -/
theorem exec_eq_mmxFrame {i : Instr} (mmx : isMmx i = true) :
    ∃ tags len op, ∀ s, exec i s = mmxFrame i.parts.1 tags len op s := by
  cases i with
  | ud2 | wrmsr | rdtsc | rdmsr | rdpmc | cpuid | rsm | cmpxchg8b | cmovo | cmovno | cmovb | cmovae | cmove | cmovne
  | cmovbe | cmova | cmovs | cmovns | cmovp | cmovnp | cmovl | cmovge | cmovle | cmovg | fcmovb | fcmove | fcmovbe
  | fcmovu | fcmovnb | fcmovne | fcmovnbe | fcmovnu | fucomi | fcomi | fucomip | fcomip => cases mmx
  | _ => exact ⟨_, _, _, fun _ => rfl⟩

/-- Settles O18: the frame of every MMX instruction makes the checks, in this order, before its operation. -/
theorem mmxChecks : Obligations.MmxChecks := by
  intro i s mmx
  obtain ⟨tags, len, op, frame⟩ := exec_eq_mmxFrame mmx
  rw [frame]
  refine ⟨fun ud => ?_, fun lock feature em ts => ?_, fun lock feature em ts pending => ?_⟩
  · exact mmxFrame_fault (mmxFault_ud ud) ..
  · exact mmxFrame_fault (mmxFault_nm lock feature em ts) ..
  · exact mmxFrame_fault (mmxFault_mf lock feature em ts pending) ..

/-! ## Operands that fail a check (20_memory R91, 40 R204) -/

section
variable {s : State} {p : List Pfx} {m : Mem} {n : Nat} {e : Exn}

theorem readMem_raises (w : Nat) (h : s.operandAddrs (operandSeg p m) (s.ea m) n false = .exn e) :
    s.readMem p m w n = .exn e := by
  rw [State.readMem, State.load, h, Res.exn_bind, Res.exn_bind]

theorem writeMem_raises {w : Nat} (v : BitVec w) (h : s.operandAddrs (operandSeg p m) (s.ea m) n true = .exn e) :
    s.writeMem p m n v = .exn e := by
  rw [State.writeMem, State.store, leBytes_length, h, Res.exn_bind]

theorem combine_raises (f : Qword → Qword → Qword) (d : RegNum)
    (h : s.operandAddrs (operandSeg p m) (s.ea m) n false = .exn e) : combine f n p d (.mem m) s = .exn e := by
  rw [combine, State.srcMm, readMem_raises 64 h, Res.exn_bind]

theorem mmxFrame_raises {op : State → Res Unit} (runs : mmxRuns s p) (h : op s = .exn e) (tags : Word16) (len : Nat) :
    mmxFrame p tags len op s = takeException e s := by
  rw [mmxFrame_runs _ _ _ runs, h, Res.exn_bind, Res.finish_exn]

end

theorem exec_movdStore (p : List Pfx) (d : RegNum) (x : Rm) (s : State) :
    exec (.movdStore p d x) s = mmxFrame p 0 (rmLength p x) (fun t => t.dst32 p x ((t.mm d).extractLsb' 0 32)) s := rfl

/-- Settles O19: every memory form accesses its operand once, with the size and the kind of access its opcode gives, and
the operation raises what that access raises. -/
theorem mmxOperandFaults : Obligations.MmxOperandFaults := by
  intro i op d m e s mmx shape runs fault
  cases i with
  | ud2 | wrmsr | rdtsc | rdmsr | rdpmc | cpuid | rsm | cmpxchg8b | cmovo | cmovno | cmovb | cmovae | cmove | cmovne
  | cmovbe | cmova | cmovs | cmovns | cmovp | cmovnp | cmovl | cmovge | cmovle | cmovg | fcmovb | fcmove | fcmovbe
  | fcmovu | fcmovnb | fcmovne | fcmovnbe | fcmovnu | fucomi | fcomi | fucomip | fcomip => cases mmx
  | emms | psrlwImm | psrawImm | psllwImm | psrldImm | psradImm | pslldImm | psrlqImm | psllqImm => cases shape
  | movdLoad p d x =>
    cases shape
    have read : s.src32 p (.mem m) = .exn e := readMem_raises 32 fault
    rw [exec_movdLoad]
    exact mmxFrame_raises runs (by rw [read, Res.exn_bind]) ..
  | movdStore p d x =>
    cases shape
    rw [exec_movdStore]
    refine mmxFrame_raises runs ?_ ..
    exact writeMem_raises _ fault
  | movqStore p d x =>
    cases shape
    rw [exec_movqStore]
    refine mmxFrame_raises runs ?_ ..
    exact writeMem_raises _ fault
  | _ =>
    cases shape
    exact mmxFrame_raises runs (combine_raises _ _ fault) ..

end Sys2Proof.Machine
end

section
namespace Sys2Proof.Machine

/-! # MMX comparisons (41_mmx_compare) -/

/-! ## Masks (41 R240) -/

section
variable {w : Nat}

theorem mask_beq (a b : BitVec w) : mask w (a == b) = if a = b then BitVec.allOnes w else 0 := by
  simp only [mask, beq_iff_eq]

theorem mask_slt (a b : BitVec w) : mask w (b.slt a) = if a.toInt > b.toInt then BitVec.allOnes w else 0 := by
  simp only [mask, BitVec.slt_iff_toInt_lt, gt_iff_lt]

end

/-- Settles O5: a lane is the mask of its comparison, and the signed one asks whether the source lies below the
destination. -/
theorem laneCompare : Obligations.LaneCompare := by
  refine fun p d x s t v runs read => ⟨srcMm_ok read, ?_, ?_, ?_, ?_, ?_, ?_⟩
  · exact mmxOp_leaves (mapB fun a b => mask 8 (a == b)) runs read fun k h => (laneB_mapB _ _ _ h).trans (mask_beq ..)
  · exact mmxOp_leaves (mapW fun a b => mask 16 (a == b)) runs read fun k h => (laneW_mapW _ _ _ h).trans (mask_beq ..)
  · exact mmxOp_leaves (mapD fun a b => mask 32 (a == b)) runs read fun k h => (laneD_mapD _ _ _ h).trans (mask_beq ..)
  · exact mmxOp_leaves (mapB fun a b => mask 8 (b.slt a)) runs read fun k h => (laneB_mapB _ _ _ h).trans (mask_slt ..)
  · exact mmxOp_leaves (mapW fun a b => mask 16 (b.slt a)) runs read fun k h => (laneW_mapW _ _ _ h).trans (mask_slt ..)
  · exact mmxOp_leaves (mapD fun a b => mask 32 (b.slt a)) runs read fun k h => (laneD_mapD _ _ _ h).trans (mask_slt ..)

end Sys2Proof.Machine
end

section
namespace Sys2Proof.Machine

/-! # MMX packs and unpacks (42_mmx_conversion) -/

/-! ## Lanes of a pack (42 R261 to R263) -/

section
variable {k : Nat} (a b : Qword)

theorem laneB_packWords_low (sat : Int → Byte) (h : k < 4) : laneB (packWords sat a b) k = sat (laneW a k).toInt := by
  rw [packWords, laneB_packB _ (by omega), if_pos h]

theorem laneB_packWords_high (sat : Int → Byte) (h : k < 4) :
    laneB (packWords sat a b) (k + 4) = sat (laneW b k).toInt := by
  rw [packWords, laneB_packB _ (by omega), if_neg (by omega), Nat.add_sub_cancel]

theorem laneW_packDwords_low (sat : Int → Word16) (h : k < 2) :
    laneW (packDwords sat a b) k = sat (laneD a k).toInt := by
  rw [packDwords, laneW_packW _ (by omega), if_pos h]

theorem laneW_packDwords_high (sat : Int → Word16) (h : k < 2) :
    laneW (packDwords sat a b) (k + 2) = sat (laneD b k).toInt := by
  rw [packDwords, laneW_packW _ (by omega), if_neg (by omega), Nat.add_sub_cancel]

end

/-! ## Lanes of an unpack (42 R270 to R277) -/

/-- What `interleaveB` and `interleaveW` answer at an even and at the following odd lane. -/
theorem alternate_pair {α : Type} (f g : Nat → α) (lo j : Nat) :
    (if 2 * j % 2 = 0 then f (lo + 2 * j / 2) else g (lo + 2 * j / 2)) = f (lo + j) ∧
    (if (2 * j + 1) % 2 = 0 then f (lo + (2 * j + 1) / 2) else g (lo + (2 * j + 1) / 2)) = g (lo + j) := by
  have even : 2 * j / 2 = j := by omega
  have odd : (2 * j + 1) / 2 = j := by omega
  exact ⟨by rw [if_pos (by omega), even], by rw [if_neg (by omega), odd]⟩

section
variable (lo : Nat) (a b : Qword) {j : Nat}

theorem laneB_interleaveB (h : j < 4) :
    laneB (interleaveB lo a b) (2 * j) = laneB a (lo + j) ∧
    laneB (interleaveB lo a b) (2 * j + 1) = laneB b (lo + j) := by
  rw [interleaveB, laneB_packB _ (by omega), laneB_packB _ (by omega)]
  exact alternate_pair (laneB a) (laneB b) lo j

theorem laneW_interleaveW (h : j < 2) :
    laneW (interleaveW lo a b) (2 * j) = laneW a (lo + j) ∧
    laneW (interleaveW lo a b) (2 * j + 1) = laneW b (lo + j) := by
  rw [interleaveW, laneW_packW _ (by omega), laneW_packW _ (by omega)]
  exact alternate_pair (laneW a) (laneW b) lo j

theorem laneD_interleaveD :
    laneD (interleaveD lo a b) 0 = laneD a lo ∧ laneD (interleaveD lo a b) 1 = laneD b lo :=
  ⟨laneD_packD _ (by decide), laneD_packD _ (by decide)⟩

end

/-! ## The instructions (42 R260 to R277) -/

/-- `mmxOp_leaves` with a 4-byte memory source (42 R277). -/
theorem mmxOp32_leaves {s t : State} {p : List Pfx} {d : RegNum} {x : Rm} {v : Qword} {P : Qword → Prop}
    (f : Qword → Qword → Qword) (runs : mmxRuns s p) (read : s.srcMm p x 4 = .ok v t) (meets : P (f (s.mm d) v)) :
    Leaves (mmxOp32 f p d x s) t d (rmLength p x) P := by
  rw [mmxOp32_runs f runs read, (srcMm_ok read).mm]
  exact ⟨_, rfl, meets⟩

/-- Settles O6: each half of the result is one operand's elements, and saturation is the clamp of the exact integer. -/
theorem packSaturates : Obligations.PackSaturates := by
  refine fun p d x s t v runs read => ⟨srcMm_ok read, ?_, ?_, ?_⟩
  · refine mmxOp_leaves (packWords (satS 8)) runs read fun k h => ?_
    rw [laneB_packWords_low _ _ _ h, laneB_packWords_high _ _ _ h]
    exact ⟨toInt_satS (by decide) _, toInt_satS (by decide) _⟩
  · refine mmxOp_leaves (packDwords (satS 16)) runs read fun k h => ?_
    rw [laneW_packDwords_low _ _ _ h, laneW_packDwords_high _ _ _ h]
    exact ⟨toInt_satS (by decide) _, toInt_satS (by decide) _⟩
  · refine mmxOp_leaves (packWords (satU 8)) runs read fun k h => ?_
    rw [laneB_packWords_low _ _ _ h, laneB_packWords_high _ _ _ h]
    exact ⟨toNat_satU _, toNat_satU _⟩

/-- Settles O7: the interleaving starts at the middle lane of both operands. -/
theorem unpackHigh : Obligations.UnpackHigh := by
  refine fun p d x s t v runs read => ⟨srcMm_ok read, ?_, ?_, ?_⟩
  · exact mmxOp_leaves (interleaveB 4) runs read fun j h => laneB_interleaveB 4 _ _ h
  · exact mmxOp_leaves (interleaveW 2) runs read fun j h => laneW_interleaveW 2 _ _ h
  · exact mmxOp_leaves (interleaveD 1) runs read (laneD_interleaveD 1 _ _)

/-- Settles O8: the interleaving starts at lane 0 of both operands, which a 4-byte source covers. -/
theorem unpackLow : Obligations.UnpackLow := by
  refine fun p d x s t v runs read => ⟨srcMm_ok read, ?_, ?_, ?_⟩
  · refine mmxOp32_leaves (interleaveB 0) runs read fun j h => ?_
    simpa only [Nat.zero_add] using laneB_interleaveB 0 (s.mm d) v h
  · refine mmxOp32_leaves (interleaveW 0) runs read fun j h => ?_
    simpa only [Nat.zero_add] using laneW_interleaveW 0 (s.mm d) v h
  · exact mmxOp32_leaves (interleaveD 0) runs read (laneD_interleaveD 0 _ _)

end Sys2Proof.Machine
end

section
namespace Sys2Proof.Machine

/-! # MMX logic (43_mmx_logical) -/

/-- Complementing brings in no bit past the width, so inside the width it is the complement of each bit. -/
theorem getLsbD_andNot {w i : Nat} (a b : BitVec w) (h : i < w) :
    (~~~a &&& b).getLsbD i = (!a.getLsbD i && b.getLsbD i) := by
  rw [BitVec.getLsbD_and, BitVec.getLsbD_not, decide_eq_true h, Bool.true_and]

/-- Settles O9: each operation of the whole quadword acts on every bit position by itself, and the operand PANDN
complements is the destination. -/
theorem logicalBitwise : Obligations.LogicalBitwise := by
  refine fun p d x s t v runs read => ⟨srcMm_ok read, ?_, ?_, ?_, ?_⟩
  · exact mmxOp_leaves (fun a b => a &&& b) runs read fun _ _ => BitVec.getLsbD_and
  · exact mmxOp_leaves (fun a b => ~~~a &&& b) runs read fun _ h => getLsbD_andNot (s.mm d) v h
  · exact mmxOp_leaves (fun a b => a ||| b) runs read fun _ _ => BitVec.getLsbD_or
  · exact mmxOp_leaves (fun a b => a ^^^ b) runs read fun _ _ => BitVec.getLsbD_xor

end Sys2Proof.Machine
end

section
namespace Sys2Proof.Machine

/-! # MMX shifts (44_mmx_shift) -/

/-! ## One lane: past the width the library's shifts bring in only zeros or only the sign (44 R301 to R322) -/

section
variable {w : Nat} (v : BitVec w) (c : Nat)

theorem shlLane_eq : shlLane w v c = v <<< c := by
  unfold shlLane
  split
  next past => exact (BitVec.shiftLeft_eq_zero (by omega)).symm
  next within =>
    refine BitVec.eq_of_toNat_eq ?_
    rw [BitVec.toNat_ofNat, BitVec.toNat_shiftLeft, Nat.shiftLeft_eq]

theorem shrLane_eq : shrLane w v c = v >>> c := by
  unfold shrLane
  split
  next past => exact (BitVec.ushiftRight_eq_zero (by omega)).symm
  next within =>
    rw [← Nat.shiftRight_eq_div_pow, ← BitVec.toNat_ushiftRight, BitVec.ofNat_toNat, BitVec.setWidth_eq]

theorem sarLane_eq : sarLane w v c = v.sshiftRight (min c (w - 1)) := by
  rw [sarLane, trunc, BitVec.sshiftRight, Int.shiftRight_eq_div_pow, Int.natCast_pow, Int.cast_ofNat_Int,
    Int.fdiv_eq_ediv_of_nonneg _ (Int.pow_nonneg (by decide))]

/-- From position `w - 1 - c` on the bit is the sign, and that is the bit where the minimum stops. -/
theorem getLsbD_sarLane {i : Nat} (h : i < w) : (sarLane w v c).getLsbD i = v.getLsbD (min (i + c) (w - 1)) := by
  have inLane : (!decide (w ≤ i)) = true := by simpa using h
  rw [sarLane_eq, BitVec.getLsbD_sshiftRight, inLane, Bool.true_and]
  split
  next below =>
    have source : min c (w - 1) + i = min (i + c) (w - 1) := by omega
    rw [source]
  next past =>
    have sign : min (i + c) (w - 1) = w - 1 := by omega
    rw [sign, BitVec.msb_eq_getLsbD_last]

end

/-! ## Lanes of a shifted quadword -/

section
variable {k : Nat} (a : Qword) (c : Nat)

theorem laneW_shlW (h : k < 4) : laneW (shlW a c) k = laneW a k <<< c := (laneW_packW _ h).trans (shlLane_eq ..)

theorem laneD_shlD (h : k < 2) : laneD (shlD a c) k = laneD a k <<< c := (laneD_packD _ h).trans (shlLane_eq ..)

theorem shlQ_eq : shlQ a c = a <<< c := shlLane_eq a c

theorem laneW_shrW (h : k < 4) : laneW (shrW a c) k = laneW a k >>> c := (laneW_packW _ h).trans (shrLane_eq ..)

theorem laneD_shrD (h : k < 2) : laneD (shrD a c) k = laneD a k >>> c := (laneD_packD _ h).trans (shrLane_eq ..)

theorem shrQ_eq : shrQ a c = a >>> c := shrLane_eq a c

theorem getLsbD_laneW_sarW {i : Nat} (h : k < 4) (hi : i < 16) :
    (laneW (sarW a c) k).getLsbD i = (laneW a k).getLsbD (min (i + c) 15) := by
  rw [sarW, laneW_packW _ h, getLsbD_sarLane _ _ hi]

theorem getLsbD_laneD_sarD {i : Nat} (h : k < 2) (hi : i < 32) :
    (laneD (sarD a c) k).getLsbD i = (laneD a k).getLsbD (min (i + c) 31) := by
  rw [sarD, laneD_packD _ h, getLsbD_sarLane _ _ hi]

end

section
variable {w c : Nat} {r v : BitVec w}

theorem eq_shiftLeft_and_past (h : r = v <<< c) : r = v <<< c ∧ (w ≤ c → r = 0) :=
  ⟨h, fun past => h.trans (BitVec.shiftLeft_eq_zero past)⟩

theorem eq_ushiftRight_and_past (h : r = v >>> c) : r = v >>> c ∧ (w ≤ c → r = 0) :=
  ⟨h, fun past => h.trans (BitVec.ushiftRight_eq_zero past)⟩

end

/-! ## Shifts that complete (44 R300) -/

section
variable {s t : State} {p : List Pfx} {d : RegNum} {P : Qword → Prop} (f : Qword → Nat → Qword)

theorem mmxShift_leaves {x : Rm} {v : Qword} (runs : mmxRuns s p) (read : s.srcMm p x 8 = .ok v t)
    (meets : P (f (s.mm d) v.toNat)) : Leaves (mmxShift f p d x s) t d (rmLength p x) P :=
  mmxOp_leaves (fun a b => f a b.toNat) runs read meets

theorem mmxShiftImm_leaves {n : Byte} (runs : mmxRuns s p) (meets : P (f (s.mm d) n.toNat)) :
    Leaves (mmxShiftImm f p d n s) s d (p.length + 4) P :=
  ⟨_, mmxShiftImm_runs f runs, meets⟩

end

/-- Settles O10: a lane shifted by the whole count, which leaves nothing of it once the count reaches its width. -/
theorem shiftLogical : Obligations.ShiftLogical := by
  refine fun p d x s t v runs read => ⟨srcMm_ok read, ?_, ?_, ?_, ?_, ?_, ?_⟩
  · exact mmxShift_leaves shlW runs read fun k h => eq_shiftLeft_and_past (laneW_shlW _ _ h)
  · exact mmxShift_leaves shlD runs read fun k h => eq_shiftLeft_and_past (laneD_shlD _ _ h)
  · exact mmxShift_leaves shlQ runs read (eq_shiftLeft_and_past (shlQ_eq ..))
  · exact mmxShift_leaves shrW runs read fun k h => eq_ushiftRight_and_past (laneW_shrW _ _ h)
  · exact mmxShift_leaves shrD runs read fun k h => eq_ushiftRight_and_past (laneD_shrD _ _ h)
  · exact mmxShift_leaves shrQ runs read (eq_ushiftRight_and_past (shrQ_eq ..))

/-- Settles O11: a bit comes from the position the count names, or from the sign where that lies past the lane. -/
theorem shiftArithmetic : Obligations.ShiftArithmetic := by
  refine fun p d x s t v runs read => ⟨srcMm_ok read, ?_, ?_⟩
  · exact mmxShift_leaves sarW runs read fun k h i hi => getLsbD_laneW_sarW _ _ h hi
  · exact mmxShift_leaves sarD runs read fun k h i hi => getLsbD_laneD_sarD _ _ h hi

/-- Settles O12: the same shifts of a quadword, the count being the byte. -/
theorem shiftImmediate : Obligations.ShiftImmediate := by
  refine fun p d n s runs => ⟨?_, ?_, ?_, ?_, ?_, ?_, ?_, ?_⟩
  · exact mmxShiftImm_leaves shlW runs fun k h => laneW_shlW _ _ h
  · exact mmxShiftImm_leaves shlD runs fun k h => laneD_shlD _ _ h
  · exact mmxShiftImm_leaves shlQ runs (shlQ_eq ..)
  · exact mmxShiftImm_leaves shrW runs fun k h => laneW_shrW _ _ h
  · exact mmxShiftImm_leaves shrD runs fun k h => laneD_shrD _ _ h
  · exact mmxShiftImm_leaves shrQ runs (shrQ_eq ..)
  · exact mmxShiftImm_leaves sarW runs fun k h i hi => getLsbD_laneW_sarW _ _ h hi
  · exact mmxShiftImm_leaves sarD runs fun k h i hi => getLsbD_laneD_sarD _ _ h hi

end Sys2Proof.Machine
end

section
namespace Sys2Proof.Machine

/-! # MMX transfers and EMMS (45_mmx_transfer_emms) -/

/-! ## Loads (45 R331, R333) -/

theorem laneD_zeroExtend (v : Dword) : laneD (v.setWidth 64) 0 = v ∧ laneD (v.setWidth 64) 1 = 0 := by
  refine ⟨BitVec.eq_of_getLsbD_eq fun i hi => ?_, BitVec.eq_of_getLsbD_eq fun i hi => ?_⟩
  · have wide : i < 64 := by omega
    simp [laneD, hi, wide]
  · simp [laneD]

/-- MOVD into an MMX register completes in the frame of a load. -/
theorem movdLoad_leaves {s t : State} {p : List Pfx} {d : RegNum} {x : Rm} {v : Dword} {P : Qword → Prop}
    (runs : mmxRuns s p) (read : s.src32 p x = .ok v t) (meets : P (v.setWidth 64)) :
    Leaves (exec (.movdLoad p d x) s) t d (rmLength p x) P := by
  rw [exec_movdLoad, mmxFrame_runs _ _ _ runs, read]
  exact ⟨_, rfl, meets⟩

/-- Settles O13: MOVD leaves its source zero-extended, MOVQ is the two-operand instruction that keeps its source. -/
theorem mmxLoad : Obligations.MmxLoad := by
  refine fun p d x s runs => ⟨fun t v read => ⟨src32_ok read, ?_⟩, fun t v read => ⟨srcMm_ok read, ?_⟩⟩
  · exact movdLoad_leaves runs read (laneD_zeroExtend v)
  · exact mmxOp_leaves (fun _ b => b) runs read rfl

/-! ## Stores to a register (45 R332, R334) -/

theorem movdStore_reg {s : State} {p : List Pfx} (runs : mmxRuns s p) (d r : RegNum) :
    exec (.movdStore p d (.reg r)) s = .next (mmxReadOnly (s.setR32 r (laneD (s.mm d) 0)) (p.length + 3)) := by
  rw [exec_movdStore, mmxFrame_runs _ _ _ runs]
  rfl

theorem movqStore_reg {s : State} {p : List Pfx} (runs : mmxRuns s p) (d r : RegNum) :
    exec (.movqStore p d (.reg r)) s = .next (mmxResult s r (s.mm d) (p.length + 3)) := by
  rw [exec_movqStore, mmxFrame_runs _ _ _ runs]
  rfl

/-- Settles O14: one register is written, the low doubleword to a general one and the quadword to an MMX one. -/
theorem mmxStoreRegister : Obligations.MmxStoreRegister := by
  refine fun p d r s runs => ⟨⟨_, movdStore_reg runs d r, ?_, fun q ne => ?_, rfl⟩, _, movqStore_reg runs d r, rfl⟩
  · exact State.r32_setR32_self ..
  · exact State.r32_setR32_ne _ _ _ _ ne.symm

/-! ## The bytes of a store (20_memory R80, R91) -/

section
variable {m : Memory} (wf : Memory.wf m) {s : State} {as : List Nat} {bs : List Byte}

theorem stores_of_allRam (ram : allRam s as) {a : Nat} (h : a ∈ as) : s.stores a = true := by
  rw [State.stores, ram a h]
  rfl

theorem storedCells_of_allRam (ram : allRam s as) : storedCells s as bs = as.zip bs :=
  List.filter_eq_self.2 fun _ h => stores_of_allRam ram (List.of_mem_zip h).1

include wf

theorem readByte_storedCells_of_notMem {a : Nat} (h : a ∉ as) :
    readByte (writeBytes m (storedCells s as bs)) a = readByte m a :=
  readByte_writeBytes_ne _ _ _ wf fun _ hc e => h (e ▸ (List.of_mem_zip (List.mem_filter.1 hc).1).1)

theorem readBytes_storedCells (ram : allRam s as) (distinct : as.Nodup) (len : as.length = bs.length) :
    readBytes (writeBytes m (storedCells s as bs)) as = bs := by
  rw [storedCells_of_allRam ram]
  exact readBytes_writeBytes _ _ _ wf distinct len

end

/-! ## Stores to memory (45 R332, R334) -/

theorem PagingOnly.inSmramSpace {s t : State} (h : PagingOnly s t) : t.inSmramSpace = s.inSmramSpace := by
  rw [h.fields]
  rfl

/-- Marks in paging entries keep the memory an access sees in canonical form. -/
theorem PagingOnly.physMem_wf {s t : State} (h : PagingOnly s t) (wf : Memory.wf s.physMem) : Memory.wf t.physMem := by
  unfold State.physMem at *
  rw [h.inSmramSpace]
  by_cases space : s.inSmramSpace = true
  · rw [if_pos space] at wf ⊢
    exact (h.smram wf).1
  · rw [if_neg space] at wf ⊢
    exact (h.mem wf).1

/-- A write whose checks pass and whose addresses all have something mapped; read-only bytes keep theirs (log 19). -/
theorem writeMem_runs {w : Nat} {s t : State} {p : List Pfx} {m : Mem} {n : Nat} {as : List Nat} (v : BitVec w)
    (h : s.operandAddrs (operandSeg p m) (s.ea m) n true = .ok as t) (mapped : ∀ a ∈ as, t.stopAt a = none) :
    s.writeMem p m n v = .ok () (t.setPhysMem (writeBytes t.physMem (storedCells t as (leBytes n v)))) := by
  have fits : as.length ≤ (leBytes n v).length :=
    Nat.le_of_eq ((operandAddrs_length h).trans (leBytes_length n v).symm)
  have noStop : as.findSome? t.stopAt = none := List.findSome?_eq_none_iff.2 mapped
  rw [State.writeMem, State.store, leBytes_length, h, Res.ok_bind, State.writePhys, List.map_fst_zip fits, noStop]
  rfl

/-- The tag word, TOS and EIP do not depend on memory. -/
theorem mmxReadOnly_setPhysMem (s : State) (m : Memory) (len : Nat) :
    mmxReadOnly (s.setPhysMem m) len = (mmxReadOnly s len).setPhysMem m := by
  have space : (mmxReadOnly s len).inSmramSpace = s.inSmramSpace := rfl
  rw [State.setPhysMem, State.setPhysMem, space]
  split <;> rfl

/-- The instruction completes from `t`, leaving `v` in the bytes at `as` and nothing else changed but the tag word, TOS
and EIP: the shape of `Obligations.MmxStoreMemory`. -/
def StoresAt {w : Nat} (o : Outcome) (t : State) (as : List Nat) (len : Nat) (v : BitVec w) : Prop :=
  ∃ u, o = .next u ∧ (∀ a, a ∉ as → readByte u.physMem a = readByte t.physMem a) ∧
    (as.Nodup → allRam t as → leValue w (readBytes u.physMem as) = v) ∧
    u = (mmxReadOnly t len).setPhysMem u.physMem

section
variable {w : Nat} {s t : State} {p : List Pfx} {m : Mem} {n len : Nat} {as : List Nat} {v : BitVec w}
  {op : State → Res Unit} (runs : mmxRuns s p) (writes : op s = s.writeMem p m n v)
  (h : s.operandAddrs (operandSeg p m) (s.ea m) n true = .ok as t) (mapped : ∀ a ∈ as, t.stopAt a = none)
include runs writes h mapped

/-- An MMX instruction whose whole operation is an `n`-byte write. -/
theorem mmxFrame_writes : mmxFrame p 0 len op s =
    .next ((mmxReadOnly t len).setPhysMem (writeBytes t.physMem (storedCells t as (leBytes n v)))) := by
  rw [mmxFrame_runs _ _ _ runs, writes, writeMem_runs v h mapped, ← mmxReadOnly_setPhysMem]
  rfl

theorem mmxFrame_storesAt (wf : Memory.wf s.physMem) (width : w ≤ 8 * n) :
    StoresAt (mmxFrame p 0 len op s) t as len v := by
  have wf' : Memory.wf t.physMem := (operandAddrs_paging h).physMem_wf wf
  have lengths : as.length = (leBytes n v).length := (operandAddrs_length h).trans (leBytes_length n v).symm
  refine ⟨_, mmxFrame_writes runs writes h mapped, ?_⟩
  rw [setPhysMem_physMem]
  refine ⟨fun a out => readByte_storedCells_of_notMem wf' out, fun distinct ram => ?_, rfl⟩
  rw [readBytes_storedCells wf' ram distinct lengths, leValue_leBytes n v width]

end

theorem rmLength_mem (p : List Pfx) (m : Mem) : rmLength p (.mem m) = p.length + 3 + m.size :=
  (Nat.add_assoc (p.length + 2) 1 m.size).symm

theorem movdStore_mem (p : List Pfx) (d : RegNum) (m : Mem) (s : State) :
    exec (.movdStore p d (.mem m)) s =
      mmxFrame p 0 (p.length + 3 + m.size) (fun t => t.writeMem p m 4 (laneD (t.mm d) 0)) s := by
  rw [exec_movdStore, rmLength_mem]
  rfl

theorem movqStore_mem (p : List Pfx) (d : RegNum) (m : Mem) (s : State) :
    exec (.movqStore p d (.mem m)) s =
      mmxFrame p 0 (p.length + 3 + m.size) (fun t => t.writeMem p m 8 (t.mm d)) s := by
  rw [exec_movqStore, rmLength_mem]
  rfl

/-- Settles O15: MOVD writes the four bytes of the low doubleword, MOVQ the eight of the register. -/
theorem mmxStoreMemory : Obligations.MmxStoreMemory := by
  refine fun p d m s runs wf => ⟨fun as t h mapped => ⟨operandAddrs_paging h, ?_⟩,
    fun as t h mapped => ⟨operandAddrs_paging h, ?_⟩⟩
  · rw [movdStore_mem]
    exact mmxFrame_storesAt (v := laneD (s.mm d) 0) runs rfl h mapped wf (by decide)
  · rw [movqStore_mem]
    exact mmxFrame_storesAt (v := s.mm d) runs rfl h mapped wf (by decide)

/-! ## EMMS (45 R330) -/

theorem getLsbD_withTos (v : Word16) (n : RegNum) (i : Nat) :
    (withTos v n).getLsbD i = if 11 ≤ i ∧ i < 14 then n.getLsbD (i - 11) else v.getLsbD i := by
  have pastEnd : 16 ≤ i → v.getLsbD i = false := BitVec.getLsbD_of_ge v i
  simp only [withTos, BitVec.getLsbD_append, BitVec.getLsbD_extractLsb']
  grind

theorem extractLsb'_withTos (v : Word16) (n : RegNum) : (withTos v n).extractLsb' 11 3 = n := by
  refine BitVec.eq_of_getLsbD_eq fun i hi => ?_
  rw [BitVec.getLsbD_extractLsb', getLsbD_withTos, if_pos (by omega), Nat.add_sub_cancel_left]
  simp [hi]

theorem getLsbD_withTos_of_outside (v : Word16) (n : RegNum) {i : Nat} (h : i < 11 ∨ 14 ≤ i) :
    (withTos v n).getLsbD i = v.getLsbD i := by
  rw [getLsbD_withTos, if_neg (by omega)]

/-- In a tag word of ones every tag is 11, empty (10_state R30). -/
theorem tag_of_ones {s : State} (h : s.ftw = 0xFFFF) (k : RegNum) : s.tag k = 3 := by
  rw [State.tag, h]
  revert k
  decide

theorem emms_runs {s : State} {p : List Pfx} (runs : mmxRuns s p) :
    exec (.emms p) s = .next ((s.mmxDone 0xFFFF).advance (p.length + 2)) := mmxFrame_runs 0xFFFF (p.length + 2) _ runs

/-- Settles O17: the checks are those of every MMX instruction, and the frame with nothing between writes a tag word of
ones and a TOS of 000. -/
theorem emmsEmptiesTags : Obligations.EmmsEmptiesTags := by
  intro p s feature
  obtain ⟨ud, nm, mf⟩ := mmxChecks (.emms p) s rfl
  refine ⟨fun h => ud (h.imp_right .inr), fun lock em => nm lock feature em, fun lock em => mf lock feature em,
    fun runs => ⟨_, emms_runs runs, ?_, ?_, ?_, rfl⟩⟩
  · exact tag_of_ones rfl
  · exact extractLsb'_withTos s.fsw 0
  · exact fun i outside => getLsbD_withTos_of_outside s.fsw 0 outside

end Sys2Proof.Machine
end

section
namespace Sys2Proof.Machine

/-! # P5 instructions (46_p5_instructions) -/

/-! ## Memory and what a translation keeps (20_memory R80, R91) -/

theorem stopAt_of_allRam {s : State} {as : List Nat} (ram : allRam s as) {a : Nat} (h : a ∈ as) :
    s.stopAt a = none := by
  rw [State.stopAt, ram a h]

/-- Every address mapped: the bytes there are read. -/
theorem readPhys_mapped {s : State} {as : List Nat} (mapped : ∀ a ∈ as, s.stopAt a = none) :
    s.readPhys as = .ok (readBytes s.physMem as) s := by
  rw [State.readPhys, List.findSome?_eq_none_iff.2 mapped]

/-- Every address mapped: the bytes are stored, but for read-only ones (log 19). -/
theorem writePhys_mapped {s : State} {as : List Nat} {bs : List Byte} (len : as.length = bs.length)
    (mapped : ∀ a ∈ as, s.stopAt a = none) :
    s.writePhys (as.zip bs) = .ok () (s.setPhysMem (writeBytes s.physMem (storedCells s as bs))) := by
  rw [State.writePhys, List.map_fst_zip (Nat.le_of_eq len), List.findSome?_eq_none_iff.2 mapped]
  rfl

theorem setPhysMem_self (s : State) : s.setPhysMem s.physMem = s := by
  unfold State.setPhysMem State.physMem
  split <;> rfl

theorem setPhysMem_gpr (s : State) (m : Memory) : (s.setPhysMem m).gpr = s.gpr := by rw [setPhysMem_fields]

theorem setPhysMem_eip (s : State) (m : Memory) : (s.setPhysMem m).eip = s.eip := by rw [setPhysMem_fields]

theorem setPhysMem_setFlag (s : State) (m : Memory) (i : Nat) (b : Bool) :
    (s.setFlag i b).setPhysMem m = (s.setPhysMem m).setFlag i b := by
  have space : (s.setFlag i b).inSmramSpace = s.inSmramSpace := rfl
  rw [State.setPhysMem, State.setPhysMem, space]
  split <;> rfl

theorem setPhysMem_flag (s : State) (m : Memory) (k : Nat) : (s.setPhysMem m).flag k = s.flag k := by
  rw [setPhysMem_fields]
  rfl

theorem flag_setFlag (s : State) (i : Nat) (b : Bool) (h : i < 32) (k : Nat) :
    (s.setFlag i b).flag k = if k = i then b else s.flag k := getLsbD_setBit s.eflags i k b h

theorem PagingOnly.gpr {s t : State} (h : PagingOnly s t) : t.gpr = s.gpr := by rw [h.fields]

theorem PagingOnly.r32 {s t : State} (h : PagingOnly s t) (q : RegNum) : t.r32 q = s.r32 q := by
  rw [State.r32, State.r32, h.gpr]

theorem PagingOnly.eip {s t : State} (h : PagingOnly s t) : t.eip = s.eip := by rw [h.fields]

/-- A store changes no byte at another address, in neither memory. -/
theorem readByte_setPhysMem_of_notMem {s : State} (wf : Memory.wf s.mem) (wf' : Memory.wf s.smram) {as : List Nat}
    {a : Nat} (out : a ∉ as) (bs : List Byte) :
    let t := s.setPhysMem (writeBytes s.physMem (storedCells s as bs))
    readByte t.mem a = readByte s.mem a ∧ readByte t.smram a = readByte s.smram a := by
  unfold State.setPhysMem State.physMem
  split
  · exact ⟨rfl, readByte_storedCells_of_notMem wf' out⟩
  · exact ⟨readByte_storedCells_of_notMem wf out, rfl⟩

/-! ## Instructions without operands -/

section
variable {s t : State} {p : List Pfx} {op : State → Res Unit} (lock : locked p = false)
include lock

theorem plainFrame_completes (h : op s = .ok () t) : plainFrame p op s = .next (t.advance (p.length + 2)) := by
  rw [plainFrame_runs op lock, h, Res.ok_bind, Res.finish_ok]

theorem plainFrame_raises {e : Exn} (h : op s = .exn e) : plainFrame p op s = takeException e s := by
  rw [plainFrame_runs op lock, h, Res.exn_bind, Res.finish_exn]

end

/-! ## EDX:EAX -/

section
variable (s : State) (v : Qword)

@[simp] theorem r32_rEAX_setEdxEax : (s.setEdxEax v).r32 rEAX = v.extractLsb' 0 32 := State.r32_setR32_self ..

@[simp] theorem r32_rEDX_setEdxEax : (s.setEdxEax v).r32 rEDX = v.extractLsb' 32 32 := by
  rw [State.setEdxEax, State.r32_setR32_ne _ _ _ _ (by decide), State.r32_setR32_self]

theorem r32_setEdxEax_ne {q : RegNum} (ha : q ≠ rEAX) (hd : q ≠ rEDX) : (s.setEdxEax v).r32 q = s.r32 q := by
  rw [State.setEdxEax, State.r32_setR32_ne _ _ _ _ ha.symm, State.r32_setR32_ne _ _ _ _ hd.symm]

@[simp] theorem edxEax_setEdxEax : (s.setEdxEax v).edxEax = v := by
  rw [State.edxEax, r32_rEDX_setEdxEax, r32_rEAX_setEdxEax]
  exact BitVec.extractLsb'_append_extractLsb'

theorem setWidth_edxEax : s.edxEax.setWidth 32 = s.r32 rEAX := BitVec.setWidth_append_eq_right

end

/-! ## CPUID (46 R352 to R356) -/

theorem exec_cpuid (p : List Pfx) (s : State) :
    exec (.cpuid p) s = plainFrame p (fun t => .ok () (cpuidLeaf t)) s := rfl

section
variable {s : State}

theorem cpuidLeaf_zero (h : s.r32 rEAX = 0) :
    cpuidLeaf s = s.setCpuid (BitVec.ofNat 32 (maxLeaf s.cfg)) 0x756E6547 0x6C65746E 0x49656E69 := by
  rw [cpuidLeaf, h]
  rfl

theorem cpuidLeaf_one (h : s.r32 rEAX = 1) : cpuidLeaf s = cpuidLeaf1 s := by
  rw [cpuidLeaf, h]
  rfl

/-- Leaf 2 exists on P6 (46 R352, R355). -/
theorem cpuidLeaf_two (h : s.r32 rEAX = 2) (p6 : s.cfg.family = .p6) :
    cpuidLeaf s = s.setCpuid s.cfg.leaf2a s.cfg.leaf2b s.cfg.leaf2c s.cfg.leaf2d := by
  rw [cpuidLeaf, h, maxLeaf, isP6, p6]
  rfl

theorem maxLeaf_eq (c : Config) : BitVec.ofNat 32 (maxLeaf c) = if c.family = .p6 then 2 else 1 := by
  cases h : c.family <;> simp [maxLeaf, isP6, h]

/-- A doubleword written to each of the four registers reads back. -/
theorem r32_setCpuid (a b c d : Dword) :
    (s.setCpuid a b c d).r32 rEAX = a ∧ (s.setCpuid a b c d).r32 rEBX = b ∧ (s.setCpuid a b c d).r32 rECX = c ∧
      (s.setCpuid a b c d).r32 rEDX = d := by
  simp [State.setCpuid, State.r32_setR32_ne]

theorem r32_cpuidLeaf1 :
    ((cpuidLeaf1 s).r32 rEAX).extractLsb' 0 14 = s.cfg.signature.extractLsb' 0 14 ∧
      (cpuidLeaf1 s).r32 rEDX = s.cfg.features := by
  refine ⟨?_, State.r32_setR32_self ..⟩
  have eax : (cpuidLeaf1 s).r32 rEAX = (s.free 18 : BitVec 18) ++ s.cfg.signature.extractLsb' 0 14 := by
    simp [cpuidLeaf1, State.setFree32, State.r32_setR32_ne]
  rw [eax]
  exact BitVec.extractLsb'_append_eq_right

end

/-- Every leaf writes the four registers and no other. -/
theorem r32_cpuidLeaf_of_notMem (s : State) {q : RegNum} (h : q ∉ [rEAX, rEBX, rECX, rEDX]) :
    (cpuidLeaf s).r32 q = s.r32 q := by
  have other {n : RegNum} (hn : n ∈ [rEAX, rEBX, rECX, rEDX]) (t : State) (v : Dword) :
      (t.setR32 n v).r32 q = t.r32 q := State.r32_setR32_ne _ _ _ _ fun e => h (e ▸ hn)
  unfold cpuidLeaf
  dsimp only
  repeat' split
  all_goals
    simp only [State.setCpuid, cpuidLeaf1, State.setFree32, State.r32_drew, other, List.mem_cons, true_or, or_true]

theorem cpuidLeaf_fields (s : State) :
    cpuidLeaf s = { s with gpr := (cpuidLeaf s).gpr, draws := (cpuidLeaf s).draws } := by
  unfold cpuidLeaf
  dsimp only
  repeat' split
  all_goals rfl

/-- Settles O28: the three described leaves by their equations, the rest by what every leaf leaves unchanged. -/
theorem cpuidLeaves : Obligations.CpuidLeaves := by
  intro p s lock
  refine ⟨_, (exec_cpuid p s).trans (plainFrame_completes lock rfl), fun zero => ?_, fun one => ?_, fun two p6 => ?_,
    fun q => r32_cpuidLeaf_of_notMem s, congrArg (State.advance · (p.length + 2)) (cpuidLeaf_fields s)⟩
  · obtain ⟨a, b, c, d⟩ := r32_setCpuid (s := s) (BitVec.ofNat 32 (maxLeaf s.cfg)) 0x756E6547 0x6C65746E 0x49656E69
    rw [← cpuidLeaf_zero zero] at a b c d
    exact ⟨a.trans (maxLeaf_eq s.cfg), b, d, c⟩
  · have leaf := r32_cpuidLeaf1 (s := s)
    rwa [← cpuidLeaf_one one] at leaf
  · have leaf := r32_setCpuid (s := s) s.cfg.leaf2a s.cfg.leaf2b s.cfg.leaf2c s.cfg.leaf2d
    rwa [← cpuidLeaf_two two p6] at leaf

/-! ## RDTSC (46 R358) -/

theorem exec_rdtsc (p : List Pfx) (s : State) :
    exec (.rdtsc p) s =
      plainFrame p (fun t => if t.tsd && t.cplNow != 0 then .exn .gp else .ok () (t.setEdxEax t.tsc)) s := rfl

/-- Settles O29: past the check of CR4.TSD and CPL it is one write of EDX:EAX. -/
theorem rdtscReadsCounter : Obligations.RdtscReadsCounter := by
  refine fun p s lock => ⟨fun tsd cpl => ?_, fun allowed => ?_⟩
  · rw [exec_rdtsc]
    exact plainFrame_raises lock (if_pos (Bool.and_eq_true_iff.2 ⟨tsd, bne_iff_ne.2 cpl⟩))
  · have check : ¬ (s.tsd && s.cplNow != 0) = true := by
      obtain tsd | cpl := allowed
      · simp [tsd]
      · simp [cpl]
    rw [exec_rdtsc]
    exact ⟨_, plainFrame_completes lock (if_neg check), edxEax_setEdxEax .., fun q => r32_setEdxEax_ne s s.tsc, rfl⟩

/-! ## RDMSR and WRMSR (46 R360 to R363) -/

theorem exec_rdmsr (p : List Pfx) (s : State) :
    exec (.rdmsr p) s = plainFrame p (fun t =>
      if t.msrDenied then .exn .gp else (readMsr t).bind fun v t => .ok () (t.setEdxEax v)) s := rfl

theorem exec_wrmsr (p : List Pfx) (s : State) :
    exec (.wrmsr p) s = plainFrame p (fun t => if t.msrDenied then .exn .gp else writeMsr t t.edxEax) s := rfl

section
variable {s : State}

theorem msrDenied_iff :
    s.msrDenied = true ↔ s.mode = .v86 ∨ s.cplNow ≠ 0 ∨ s.cfg.msrValid.contains (s.r32 rECX).toNat = false := by
  simp only [State.msrDenied, Bool.or_eq_true, beq_iff_eq, bne_iff_ne, Bool.not_eq_true', or_assoc]

theorem not_msrDenied (h : msrRuns s) : ¬ s.msrDenied = true := by
  obtain ⟨mode, cpl, valid⟩ := h
  rw [msrDenied_iff, valid]
  exact not_or.2 ⟨mode, not_or.2 ⟨fun outside => outside cpl, nofun⟩⟩

/-- RDMSR of a described number: what it reads, and at most one free value used (10_state R43 to R46). -/
theorem readMsr_described (h : s.r32 rECX ∈ ([0x10, 0x11, 0x12, 0x13] : List Dword)) :
    ∃ v n, readMsr s = .ok v { s with draws := n } ∧ (s.r32 rECX = 0x10 → v = s.tsc) ∧
      (s.r32 rECX = 0x11 → v.extractLsb' 0 32 = s.cesr) ∧ (s.r32 rECX = 0x12 → v.toNat = s.ctr0.toNat) ∧
      (s.r32 rECX = 0x13 → v.toNat = s.ctr1.toNat) := by
  have widen (c : BitVec 40) : (c.setWidth 64).toNat = c.toNat := BitVec.toNat_setWidth_of_le (by decide)
  have cesr : ((s.free 32 : Dword) ++ s.cesr).extractLsb' 0 32 = s.cesr := BitVec.extractLsb'_append_eq_right
  simp only [List.mem_cons, List.not_mem_nil, or_false] at h
  obtain h | h | h | h := h <;> rw [readMsr, h]
  · exact ⟨s.tsc, s.draws, rfl, by simp⟩
  · exact ⟨(s.free 32 : Dword) ++ s.cesr, s.draws + 1, rfl, by simp [cesr]⟩
  · exact ⟨s.ctr0.setWidth 64, s.draws, rfl, by simp [widen]⟩
  · exact ⟨s.ctr1.setWidth 64, s.draws, rfl, by simp [widen]⟩

end

/-- Settles O30: past the checks EDX:EAX receives what `readMsr` reads. -/
theorem rdmsrReadsRegister : Obligations.RdmsrReadsRegister := by
  refine fun p s lock => ⟨fun denied => ?_, fun runs described => ?_⟩
  · rw [exec_rdmsr]
    exact plainFrame_raises lock (if_pos (msrDenied_iff.2 denied))
  · obtain ⟨v, n, read, tsc, cesr, ctr0, ctr1⟩ := readMsr_described described
    let t := { s with draws := n }
    have op : (if s.msrDenied then .exn .gp else (readMsr s).bind fun v t => .ok () (t.setEdxEax v)) =
        Res.ok () (t.setEdxEax v) := by
      rw [if_neg (not_msrDenied runs), read, Res.ok_bind]
    have value : ((t.setEdxEax v).advance (p.length + 2)).edxEax = v := edxEax_setEdxEax t v
    refine ⟨_, (exec_rdmsr p s).trans (plainFrame_completes lock op), ?_, fun h => ?_, ?_, ?_, fun q => ?_, rfl⟩
    · rwa [value]
    · exact (r32_rEAX_setEdxEax t v).trans (cesr h)
    · rwa [value]
    · rwa [value]
    · exact r32_setEdxEax_ne t v

/-- The bits of CESR that hold a field (10_state R46). -/
def cesrFieldBits : List Nat := [0, 1, 2, 3, 4, 5, 6, 7, 8, 9, 16, 17, 18, 19, 20, 21, 22, 23, 24, 25]

theorem getLsbD_not_cesrMask : ∀ k < 64, (~~~ cesrMask).getLsbD k = decide (k ∉ cesrFieldBits) := by decide

theorem and_not_cesrMask_iff (v : Qword) :
    v &&& ~~~ cesrMask = 0 ↔ ∀ k < 64, k ∉ cesrFieldBits → v.getLsbD k = false := by
  have bit {k : Nat} (hk : k < 64) : (v &&& ~~~ cesrMask).getLsbD k = (v.getLsbD k && decide (k ∉ cesrFieldBits)) := by
    rw [BitVec.getLsbD_and, getLsbD_not_cesrMask k hk]
  refine ⟨fun h k hk out => ?_, fun h => BitVec.eq_of_getLsbD_eq fun k hk => ?_⟩
  · simpa [h, out] using (bit hk).symm
  · by_cases out : k ∈ cesrFieldBits
    · simp [bit hk, out]
    · simp [bit hk, h k hk out]

/-- What WRMSR of a described number leaves (46 R362, R363). -/
theorem writeMsr_described (s : State) (v : Qword) :
    (s.r32 rECX = 0x10 → writeMsr s v = .ok () { s with tsc := v }) ∧
      (s.r32 rECX = 0x11 → v &&& ~~~ cesrMask ≠ 0 → writeMsr s v = .exn .gp) ∧
      (s.r32 rECX = 0x11 → v &&& ~~~ cesrMask = 0 → writeMsr s v = .ok () { s with cesr := v.setWidth 32 }) ∧
      (s.r32 rECX = 0x12 → writeMsr s v = .ok () { s with ctr0 := v.setWidth 40 }) ∧
      (s.r32 rECX = 0x13 → writeMsr s v = .ok () { s with ctr1 := v.setWidth 40 }) := by
  refine ⟨fun h => ?_, fun h reserved => ?_, fun h clear => ?_, fun h => ?_, fun h => ?_⟩ <;> rw [writeMsr, h]
  · rfl
  · exact if_neg reserved
  · exact if_pos clear
  · rfl
  · rfl

/-- Settles O31: past the checks ECX selects one write; the reserved bits of CESR are those `cesrMask` leaves out. -/
theorem wrmsrWritesRegister : Obligations.WrmsrWritesRegister := by
  refine fun p s lock => ⟨fun denied => ?_, fun runs => ?_⟩
  · rw [exec_wrmsr]
    exact plainFrame_raises lock (if_pos (msrDenied_iff.2 denied))
  have op : (if s.msrDenied then .exn .gp else writeMsr s s.edxEax) = writeMsr s s.edxEax := if_neg (not_msrDenied runs)
  have writes {t : State} (h : writeMsr s s.edxEax = .ok () t) :
      exec (.wrmsr p) s = .next (t.advance (p.length + 2)) :=
    (exec_wrmsr p s).trans (plainFrame_completes lock (op.trans h))
  obtain ⟨tsc, gp, cesr, ctr0, ctr1⟩ := writeMsr_described s s.edxEax
  refine ⟨fun h => writes (tsc h), fun h reserved => ?_, fun h clear => ?_, fun h => ⟨_, writes (ctr0 h), ?_, rfl⟩,
    fun h => ⟨_, writes (ctr1 h), ?_, rfl⟩⟩
  · obtain ⟨k, hk, out, set⟩ := reserved
    have notClear : s.edxEax &&& ~~~ cesrMask ≠ 0 := fun clear => by
      rw [(and_not_cesrMask_iff _).1 clear k hk out] at set
      contradiction
    exact (exec_wrmsr p s).trans (plainFrame_raises lock (op.trans (gp h notClear)))
  · rw [writes (cesr h ((and_not_cesrMask_iff _).2 clear)), setWidth_edxEax]
    rfl
  · exact BitVec.toNat_setWidth ..
  · exact BitVec.toNat_setWidth ..

/-! ## CMPXCHG8B (46 R350) -/

section
variable {p : List Pfx} {m : Mem} {s t : State} {as : List Nat}
  (found : s.operandAddrs (operandSeg p m) (s.ea m) 8 true = .ok as t) (mapped : ∀ a ∈ as, t.stopAt a = none)
include found mapped

/-- Equal: ZF is set and ECX:EBX stored (46 R350 step 4). -/
theorem compareExchange_equal (h : t.edxEax = leValue 64 (readBytes t.physMem as)) :
    compareExchange p m s = .ok ()
      ((t.setPhysMem (writeBytes t.physMem (storedCells t as (leBytes 8 t.ecxEbx)))).setFlag bitZF true) := by
  have len : as.length = (leBytes 8 t.ecxEbx).length := (operandAddrs_length found).trans (leBytes_length ..).symm
  rw [compareExchange, found, Res.ok_bind, readPhys_mapped mapped, Res.ok_bind, if_pos h,
    ← setPhysMem_setFlag]
  exact writePhys_mapped (s := t.setFlag bitZF true) len mapped

/-- Unequal: ZF is cleared and EDX:EAX loaded (46 R350 step 5). -/
theorem compareExchange_unequal (h : t.edxEax ≠ leValue 64 (readBytes t.physMem as)) :
    compareExchange p m s = .ok () ((t.setFlag bitZF false).setEdxEax (leValue 64 (readBytes t.physMem as))) := by
  rw [compareExchange, found, Res.ok_bind, readPhys_mapped mapped, Res.ok_bind, if_neg h]

end

/-- Settles O26: the translation keeps the registers compared and exchanged, and each case is one write. -/
theorem cmpxchg8bCompareExchange : Obligations.Cmpxchg8bCompareExchange := by
  intro p m s t as wf found mapped old
  have paging := operandAddrs_paging found
  have wf' := paging.physMem_wf wf
  have edxEax : t.edxEax = s.edxEax := by rw [State.edxEax, State.edxEax, paging.r32, paging.r32]
  have ecxEbx : t.ecxEbx = s.ecxEbx := by rw [State.ecxEbx, State.ecxEbx, paging.r32, paging.r32]
  have completes {u : State} (h : compareExchange p m s = .ok () u) :
      exec (.cmpxchg8b p (.mem m)) s = .next (u.advance (p.length + 3 + m.size)) := by
    rw [exec_cmpxchg8b, h, rmLength_mem, Res.ok_bind, Res.finish_ok]
  refine ⟨paging, ?_⟩
  by_cases equal : t.edxEax = old
  · let w := writeBytes t.physMem (storedCells t as (leBytes 8 t.ecxEbx))
    have mem : (((t.setPhysMem w).setFlag bitZF true).advance (p.length + 3 + m.size)).physMem = w :=
      setPhysMem_physMem t w
    have flag := flag_setFlag (t.setPhysMem w) bitZF true (by decide)
    refine ⟨_, completes (compareExchange_equal found mapped equal), fun k other => ?_, fun a out => ?_,
      fun _ => ⟨?_, ?_, fun distinct ram => ?_⟩, fun h => absurd (edxEax.symm.trans equal) h, ?_⟩
    · exact (flag k).trans <| (if_neg other).trans <| (setPhysMem_flag t w k).trans (paging.flag k)
    · rw [mem]
      exact readByte_storedCells_of_notMem wf' out
    · exact (flag bitZF).trans (if_pos rfl)
    · exact (setPhysMem_gpr t w).trans paging.gpr
    · rw [mem, ← ecxEbx]
      have bytes := readBytes_storedCells wf' ram distinct
        ((operandAddrs_length found).trans (leBytes_length 8 t.ecxEbx).symm)
      rw [bytes, leValue_leBytes 8 _ (by decide)]
    · rw [mem, ← paging.eip, ← setPhysMem_eip t w]
      rfl
  · let v := t.setFlag bitZF false
    have mem : ((v.setEdxEax old).advance (p.length + 3 + m.size)).physMem = t.physMem := rfl
    have flag := flag_setFlag t bitZF false (by decide)
    refine ⟨_, completes (compareExchange_unequal found mapped equal), fun k other => ?_, fun _ _ => rfl,
      fun h => absurd (edxEax.trans h) equal, fun _ => ⟨?_, ?_, rfl, fun q ha hd => ?_⟩, ?_⟩
    · exact (flag k).trans ((if_neg other).trans (paging.flag k))
    · exact (flag bitZF).trans (if_pos rfl)
    · exact edxEax_setEdxEax v old
    · exact (r32_setEdxEax_ne v old ha hd).trans (paging.r32 q)
    · rw [mem, setPhysMem_self, ← paging.eip]
      rfl

/-- Settles O27: neither form gets past its check. -/
theorem cmpxchg8bTraps : Obligations.Cmpxchg8bTraps := by
  refine fun p s => ⟨fun r => rfl, fun m e raised => ?_⟩
  rw [exec_cmpxchg8b, compareExchange, raised]
  rfl

end Sys2Proof.Machine
end

section
namespace Sys2Proof.Machine

/-! # RSM (46_p5_instructions R364 to R366) -/

/-! ## RSM in SMM -/

theorem exec_rsm (p : List Pfx) (s : State) : exec (.rsm p) s = execRsm p s := rfl

section
variable {p : List Pfx} {s : State} {bs : List Byte}

theorem exec_rsm_outside (lock : locked p = false) (outside : s.inSmm = false) :
    exec (.rsm p) s = takeException .ud s := by
  have noLock : ¬ p.contains .lock = true := ne_true_of_eq_false lock
  rw [exec_rsm, execRsm, if_neg noLock, outside]
  rfl

theorem exec_rsm_inside (lock : locked p = false) (inside : s.inSmm = true)
    (read : s.readPhys (areaAddrs s.smbase) = .ok bs s) : exec (.rsm p) s = (rsmWith bs s).finish s := by
  have noLock : ¬ p.contains .lock = true := ne_true_of_eq_false lock
  rw [exec_rsm, execRsm, if_neg noLock, inside, read]
  rfl

/-- The conditions of 46 R366. -/
theorem rsmBad_iff : s.rsmBad bs = true ↔ s.smmImage.cr4 &&& cr4Reserved s.cfg ≠ 0 ∨
    ((slot32 bs 0x1FC).getLsbD 31 = true ∧ (slot32 bs 0x1FC).getLsbD 0 = false) ∨
    ((slot32 bs 0x1FC).getLsbD 29 = true ∧ (slot32 bs 0x1FC).getLsbD 30 = false) ∨
    (s.cfg.family = .p5 ∧ (s.newSmbase bs).toNat % 0x8000 ≠ 0) := by
  have p5 : smbaseAlignCheck s.cfg = true ↔ s.cfg.family = .p5 := by
    cases h : s.cfg.family <;> simp [smbaseAlignCheck, isP6, h]
  simp only [State.rsmBad, cr0Illegal, Bool.or_eq_true, Bool.and_eq_true, Bool.not_eq_true', bne_iff_ne, p5, or_assoc]

theorem rsmWith_bad (bad : s.rsmBad bs = true) : rsmWith bs s = .ok () s.rsmShutdown := if_pos bad

theorem resumeHalted_refused (set : (slot16 bs 0x102).getLsbD 0 = true) (awake : s.haltedAtSmi = false) :
    s.resumeHalted bs = none := by
  simp [State.resumeHalted, set, awake]

theorem resumeHalted_allowed (h : (slot16 bs 0x102).getLsbD 0 = true → s.haltedAtSmi = true) :
    s.resumeHalted bs = some ((slot16 bs 0x102).getLsbD 0) := by
  refine if_neg fun refused => ?_
  obtain ⟨set, awake⟩ := Bool.and_eq_true_iff.1 refused
  rw [h set] at awake
  contradiction

/-- The two values of the I/O restart field that have an effect (60 R569). -/
theorem resumeEip_eq {target : Dword} (h : slot16 bs 0x100 = 0 ∧ target = slot32 bs 0x1F0 ∨
      slot16 bs 0x100 = 0x00FF ∧ s.cfg.smmRevision.getLsbD 16 = true ∧ s.ioRestartEip = some target) :
    s.resumeEip bs = some target := by
  obtain ⟨zero, rfl⟩ | ⟨restart, supported, io⟩ := h
  · exact if_pos zero
  · rw [State.resumeEip, restart, if_neg (by decide), if_pos ⟨rfl, supported⟩, io]

section
variable (good : s.rsmBad bs = false) (kept : areaKept s.smmImage.area bs = true) (base : s.smbaseRefused bs = false)
include good kept base

theorem rsmWith_haltRefused (halt : s.resumeHalted bs = none) : rsmWith bs s = .stop (.refused .haltRestart) := by
  simp [rsmWith, good, kept, base, halt]

theorem rsmWith_resumes {halted : Bool} {target : Dword} (halt : s.resumeHalted bs = some halted)
    (eip : s.resumeEip bs = some target) : rsmWith bs s = .ok () (s.rsmRestore bs target halted) := by
  simp [rsmWith, good, kept, base, halt, eip]

end

end

/-- Settles O35: past the checks of the image the two restart words decide, and the resumed state is `rsmRestore`. -/
theorem rsmRestores : Obligations.RsmRestores := by
  refine fun p s bs lock => ⟨exec_rsm_outside lock, fun inside read good kept base => ⟨fun set awake => ?_,
    fun halt target io => ?_⟩⟩
  · rw [exec_rsm_inside lock inside read, rsmWith_haltRefused good kept base (resumeHalted_refused set awake)]
    rfl
  · rw [exec_rsm_inside lock inside read,
      rsmWith_resumes good kept base (resumeHalted_allowed halt) (resumeEip_eq io)]
    rfl

/-! ## Shutdown (60 R570) -/

/-- In shutdown a step without an input runs nothing; time passes. -/
theorem step_of_shutdown {s : State} (noInput : s.inputs = []) (down : s.shutdown = true) :
    step s = .next (tick s s) := by
  have stuck : pendingEvent s = some (.next s) := by simp [pendingEvent, down]
  simp only [step, noInput, boundary, stuck, ticked]

/-- Settles O36: each named condition is one of `rsmBad`, and what RSM then leaves is in shutdown. -/
theorem rsmShutdown : Obligations.RsmShutdown := by
  intro p s bs lock inside read bad
  refine ⟨s.rsmShutdown, ?_, rfl, fun noInput => ⟨_, step_of_shutdown noInput rfl, rfl⟩⟩
  rw [exec_rsm_inside lock inside read, rsmWith_bad (rsmBad_iff.2 bad), Res.finish_ok]

/-! ## The state save area (60 R560) -/

@[simp] theorem reservedBytes_length (fr : BitVec 4096) (k n : Nat) : (reservedBytes fr k n).length = n := by
  simp [reservedBytes]

@[simp] theorem starSlot_length (fr : BitVec 4096) (k : Nat) (v : Word16) : (starSlot fr k v).length = 4 := by
  simp [starSlot]

theorem flatMap_leBytes_length {w : Nat} (n : Nat) (l : List (BitVec w)) :
    (l.flatMap (leBytes n)).length = l.length * n := by
  induction l with
  | nil => exact (Nat.zero_mul n).symm
  | cons v t ih =>
    rw [List.flatMap_cons, List.length_append, leBytes_length, ih, List.length_cons, Nat.succ_mul, Nat.add_comm]

@[simp] theorem areaBytes_length (s : State) (fr : BitVec 4096) : (areaBytes s fr).length = 512 := by
  unfold areaBytes
  simp only [List.length_append, leBytes_length, reservedBytes_length, starSlot_length, flatMap_leBytes_length,
    Vector.length_toList, List.length_cons, List.length_nil, Nat.reduceAdd, Nat.reduceMul]

theorem areaAddrs_eq_flatAddrs (smbase : Dword) : areaAddrs smbase = flatAddrs (smbase + 0xFE00) 512 := rfl

section
variable {l r : List Byte} {k : Nat}

theorem slot32_append_of_le (h : l.length ≤ k) : slot32 (l ++ r) k = slot32 r (k - l.length) := by
  rw [slot32, List.drop_append, List.drop_of_length_le h, List.nil_append, slot32]

theorem slot16_append_of_le (h : l.length ≤ k) : slot16 (l ++ r) k = slot16 r (k - l.length) := by
  rw [slot16, List.drop_append, List.drop_of_length_le h, List.nil_append, slot16]

theorem slot32_leBytes (v : Dword) : slot32 (leBytes 4 v ++ r) 0 = v := by
  rw [slot32, List.drop_zero, List.take_left' (leBytes_length 4 v), leValue_leBytes 4 v (by decide)]

theorem slot16_leBytes (v : Word16) : slot16 (leBytes 2 v ++ r) 0 = v := by
  rw [slot16, List.drop_zero, List.take_left' (leBytes_length 2 v), leValue_leBytes 2 v (by decide)]

/-- Slot `q` of a run of doublewords. -/
theorem slot32_flatMap_leBytes (l : List Dword) {q : Nat} (h : q < l.length) :
    slot32 (l.flatMap (leBytes 4) ++ r) (4 * q) = l[q] := by
  induction l generalizing q with
  | nil => contradiction
  | cons v t ih =>
    rw [List.flatMap_cons, List.append_assoc]
    cases q with
    | zero => exact slot32_leBytes v
    | succ q =>
      rw [slot32_append_of_le (by rw [leBytes_length]; omega), leBytes_length, Nat.mul_succ, Nat.add_sub_cancel]
      exact ih (Nat.lt_of_succ_lt_succ h)

end

/-- The bytes hold what SMM entry saves of `s`, in the slots that RSM reads (60 R560). -/
structure AreaHolds (s : State) (bs : List Byte) : Prop where
  smbase : slot32 bs 0xF8 = s.smbase
  ioRestart : slot16 bs 0x100 = 0
  halted : (slot16 bs 0x102).getLsbD 0 = s.halted
  dr7 : slot32 bs 0x1C8 = s.dr.dr7
  dr6 : slot32 bs 0x1CC = s.dr.dr6
  gpr : gprSlots bs = s.gpr
  eip : slot32 bs 0x1F0 = s.eip
  eflags : slot32 bs 0x1F4 = s.eflags
  cr3 : slot32 bs 0x1F8 = s.cr3
  cr0 : slot32 bs 0x1FC = s.cr0

section
variable (s : State) (fr : BitVec 4096)

theorem slot32_areaBytes_gpr (q : RegNum) : slot32 (areaBytes s fr) (0x1D0 + 4 * q.toNat) = s.r32 q := by
  have inside : q.toNat < s.gpr.toList.length := by
    rw [Vector.length_toList]
    exact q.isLt
  have slot (r : List Byte) := (slot32_flatMap_leBytes (r := r) s.gpr.toList inside).trans (Vector.getElem_toList ..)
  have past {l r : List Byte} (h : l.length = 0x1D0) :
      slot32 (l ++ r) (0x1D0 + 4 * q.toNat) = slot32 r (4 * q.toNat) := by
    rw [slot32_append_of_le (h ▸ Nat.le_add_right ..), h, Nat.add_sub_cancel_left]
  unfold areaBytes
  rw [List.append_assoc, List.append_assoc, List.append_assoc, List.append_assoc, past]
  · exact slot _
  · simp only [List.length_append, leBytes_length, reservedBytes_length, starSlot_length, List.length_cons,
      List.length_nil, Nat.reduceAdd]

theorem getElem_gprSlots (bs : List Byte) {i : Nat} (h : i < 8) : (gprSlots bs)[i] = slot32 bs (0x1D0 + 4 * i) :=
  match i, h with
  | 0, _ | 1, _ | 2, _ | 3, _ | 4, _ | 5, _ | 6, _ | 7, _ => rfl

theorem gprSlots_areaBytes : gprSlots (areaBytes s fr) = s.gpr :=
  Vector.ext fun i hi => (getElem_gprSlots _ hi).trans (slot32_areaBytes_gpr s fr (BitVec.ofNatLT i hi))

theorem getLsbD_haltWord (halted : Bool) : (haltWord fr halted).getLsbD 0 = halted :=
  (BitVec.getLsbD_append ..).trans (by simp)

theorem areaBytes_holds : AreaHolds s (areaBytes s fr) := by
  have zeros : ([0, 0] : List Byte) = leBytes 2 (0 : Word16) := by decide
  have last (v : Dword) : slot32 (leBytes 4 v) 0 = v := by simpa using slot32_leBytes (r := []) v
  constructor
  case gpr => exact gprSlots_areaBytes s fr
  case halted =>
    have word : slot16 (areaBytes s fr) 0x102 = haltWord fr s.halted := by
      unfold areaBytes
      rw [zeros]
      simp only [List.append_assoc, slot16_append_of_le, slot16_leBytes, leBytes_length, reservedBytes_length,
        Nat.reduceLeDiff, Nat.le_refl, Nat.reduceSub]
    rw [word, getLsbD_haltWord]
  all_goals
    unfold areaBytes
    rw [zeros]
    simp only [List.append_assoc, slot32_append_of_le, slot16_append_of_le, slot32_leBytes, slot16_leBytes, last,
      leBytes_length, reservedBytes_length, starSlot_length, flatMap_leBytes_length, Vector.length_toList,
      Nat.reduceLeDiff, Nat.le_refl, Nat.reduceSub, Nat.reduceMul]

end

theorem areaKept_self (l : List Byte) : areaKept l l = true := by
  simp only [areaKept, beq_self_eq_true, Bool.true_and, List.all_eq_true, Bool.or_eq_true, beq_iff_eq]
  rintro ⟨c, k⟩ h
  have pair := List.fst_mem_of_mem_zipIdx h
  rw [List.zip_eq_zipWith, List.zipWith_self] at pair
  obtain ⟨b, -, rfl⟩ := List.mem_map.1 pair
  exact .inr rfl

/-! ## SMM entry and RSM right after it (60 R561, 46 R364) -/

/-- The state that writes the save area. -/
def State.entering (s : State) : State := { s.drew with inSmm := true }

/-- The state with the save area written. -/
def State.areaStored (s : State) : State :=
  s.entering.setPhysMem
    (writeBytes s.entering.physMem (storedCells s.entering (areaAddrs s.smbase) (areaBytes s (s.free 4096))))

/-- SMM as its handler finds it, with these memories; `fr` fills the reserved slots. -/
def State.smmStart (s : State) (fr : BitVec 4096) (m r : Memory) (n : Nat) : State :=
  State.smmRegs { s with mem := m, smram := r, inSmm := true, draws := n } s.halted (s.smmSaved (areaBytes s fr))

theorem areaStored_fields (s : State) : s.areaStored =
    { s with mem := s.areaStored.mem, smram := s.areaStored.smram, inSmm := true, draws := s.draws + 1 } :=
  setPhysMem_fields ..

theorem areaAddrs_length (smbase : Dword) : (areaAddrs smbase).length = 512 := by
  rw [areaAddrs_eq_flatAddrs, flatAddrs_length]

theorem smiEntry_eq (s : State) : smiEntry s =
    (s.entering.writePhys ((areaAddrs s.smbase).zip (areaBytes s (s.free 4096)))).bind fun _ t =>
      .ok () (t.smmRegs s.halted (s.smmSaved (areaBytes s (s.free 4096)))) := rfl

section
variable {s : State} (ram : allRam { s with inSmm := true } (areaAddrs s.smbase))
include ram

theorem entering_allRam : allRam s.entering (areaAddrs s.smbase) := ram

theorem smmStart_allRam (fr : BitVec 4096) (m r : Memory) (n : Nat) :
    allRam (s.smmStart fr m r n) (areaAddrs s.smbase) := ram

theorem smiEntry_runs : smiEntry s =
    .ok () (s.smmStart (s.free 4096) s.areaStored.mem s.areaStored.smram (s.draws + 1)) := by
  have len : (areaAddrs s.smbase).length = (areaBytes s (s.free 4096)).length := by
    rw [areaAddrs_length, areaBytes_length]
  rw [smiEntry_eq, writePhys_mapped len fun _ => stopAt_of_allRam (entering_allRam ram), Res.ok_bind, State.smmStart,
    ← areaStored_fields]
  rfl

/-- RSM reads in the area the bytes that were stored. -/
theorem smmStart_reads (wf : Memory.wf s.mem) (wf' : Memory.wf s.smram) :
    let t := s.smmStart (s.free 4096) s.areaStored.mem s.areaStored.smram (s.draws + 1)
    t.readPhys (areaAddrs s.smbase) = .ok (areaBytes s (s.free 4096)) t := by
  intro t
  have mem : t.physMem = s.areaStored.physMem := (congrArg State.physMem (areaStored_fields s)).symm
  have distinct : (areaAddrs s.smbase).Nodup := flatAddrs_nodup (s.smbase + 0xFE00) (by decide)
  have bytes : readBytes t.physMem (areaAddrs s.smbase) = areaBytes s (s.free 4096) := by
    rw [mem, State.areaStored, setPhysMem_physMem]
    exact readBytes_storedCells (physMem_wf s.entering wf wf') (entering_allRam ram) distinct
      ((areaAddrs_length _).trans (areaBytes_length ..).symm)
  rw [readPhys_mapped fun _ => stopAt_of_allRam (smmStart_allRam ram _ _ _ _), bytes]

end

theorem readByte_areaStored {s : State} (wf : Memory.wf s.mem) (wf' : Memory.wf s.smram) {a : Nat}
    (out : a ∉ areaAddrs s.smbase) :
    readByte s.areaStored.mem a = readByte s.mem a ∧ readByte s.areaStored.smram a = readByte s.smram a :=
  readByte_setPhysMem_of_notMem (s := s.entering) wf wf' out (areaBytes s (s.free 4096))

section
variable (s : State) (fr : BitVec 4096) (m r : Memory) (n : Nat)

theorem smmStart_newSmbase : (s.smmStart fr m r n).newSmbase (areaBytes s fr) = s.smbase := by
  rw [State.newSmbase, (areaBytes_holds s fr).smbase]
  exact ite_self _

/-- The shutdown conditions are those the state before SMM entry does not meet. -/
theorem smmStart_rsmBad (i : Inv s) (cr0 : cr0Illegal s.cr0 = false) :
    (s.smmStart fr m r n).rsmBad (areaBytes s fr) = false := by
  rw [State.rsmBad, smmStart_newSmbase, (areaBytes_holds s fr).cr0, cr0]
  have cr4 : ((s.smmStart fr m r n).smmImage.cr4 &&& cr4Reserved (s.smmStart fr m r n).cfg != 0) = false :=
    bne_eq_false_iff_eq.2 i.cr4
  rw [cr4, Bool.false_or, Bool.false_or, Bool.and_eq_false_imp]
  exact fun align => bne_eq_false_iff_eq.2 (i.smbase align)

theorem smmStart_smbaseRefused : (s.smmStart fr m r n).smbaseRefused (areaBytes s fr) = false := by
  have same : (slot32 (areaBytes s fr) 0xF8 != slot32 (s.smmStart fr m r n).smmImage.area 0xF8) = false :=
    bne_self_eq_false _
  rw [State.smbaseRefused, same, Bool.and_false]

theorem smmStart_resumeHalted : (s.smmStart fr m r n).resumeHalted (areaBytes s fr) = some s.halted := by
  have halted := (areaBytes_holds s fr).halted
  exact (resumeHalted_allowed fun set => halted.symm.trans set).trans (congrArg some halted)

theorem smmStart_resumeEip : (s.smmStart fr m r n).resumeEip (areaBytes s fr) = some s.eip :=
  resumeEip_eq (.inl ⟨(areaBytes_holds s fr).ioRestart, (areaBytes_holds s fr).eip.symm⟩)

theorem smmStart_rsmRestore (fixed : eflagsOk s.eflags = true) :
    (s.smmStart fr m r n).rsmRestore (areaBytes s fr) s.eip s.halted =
      { s with mem := m, smram := r, smmImage := s.smmSaved (areaBytes s fr), draws := n + 9, inSmm := false
               smiLatched := false, stepTrap := false, nmiBlocked := false, a20mBlocked := false, haltedAtSmi := false
               ioRestartEip := none } := by
  have slots := areaBytes_holds s fr
  rw [State.rsmRestore, smmStart_newSmbase, slots.gpr, slots.dr7, slots.dr6, slots.eflags, slots.cr3, slots.cr0,
    ← eq_of_beq fixed]
  rfl

/-- RSM finds the image that was stored: no check stops it. -/
theorem smmStart_rsmWith (i : Inv s) (cr0 : cr0Illegal s.cr0 = false) :
    rsmWith (areaBytes s fr) (s.smmStart fr m r n) =
      .ok () ((s.smmStart fr m r n).rsmRestore (areaBytes s fr) s.eip s.halted) :=
  rsmWith_resumes (smmStart_rsmBad s fr m r n i cr0) (areaKept_self _) (smmStart_smbaseRefused s fr m r n)
    (smmStart_resumeHalted s fr m r n) (smmStart_resumeEip s fr m r n)

end

/-- Settles O38: RSM reads the bytes that entry stored, and every slot returns to its register. -/
theorem smiThenRsm : Obligations.SmiThenRsm := by
  intro s t i outside cr0 ram entry
  rw [smiEntry_runs ram] at entry
  cases entry
  have run := exec_rsm_inside (p := []) rfl rfl (smmStart_reads ram i.mem i.smram)
  rw [smmStart_rsmWith s _ _ _ _ i cr0, smmStart_rsmRestore s _ _ _ _ i.eflags, Res.finish_ok] at run
  refine ⟨_, run, fun a => readByte_areaStored i.mem i.smram, ?_⟩
  rw [outside]

end Sys2Proof.Machine
end

section
namespace Sys2Proof.Machine

/-! # P6 instructions (47_p6_instructions) -/

/-! ## CMOVcc (47 R380 to R397) -/

theorem PagingOnly.eflags {s t : State} (h : PagingOnly s t) : t.eflags = s.eflags := by rw [h.fields]

section
variable (s : State) (d : RegNum) (v : Word16)

@[simp] theorem r16_setR16_self : (s.setR16 d v).r16 d = v := by
  rw [State.r16, State.setR16, State.r32_setR32_self]
  exact BitVec.extractLsb'_append_eq_right

/-- A 16-bit write keeps the upper half (log 52). -/
theorem upperHalf_setR16 : ((s.setR16 d v).r32 d).extractLsb' 16 16 = (s.r32 d).extractLsb' 16 16 := by
  rw [State.setR16, State.r32_setR32_self]
  exact BitVec.extractLsb'_append_eq_left

theorem r32_setR16_ne {q : RegNum} (h : q ≠ d) : (s.setR16 d v).r32 q = s.r32 q := State.r32_setR32_ne _ _ _ _ h.symm

end

section
variable {cc : Nat} {s : State} {p : List Pfx} {d : RegNum} {x : Rm}

theorem cmov_ud (h : locked p = true ∨ hasCmov s.cfg = false) : cmov cc p d x s = takeException .ud s := by
  have check : (locked p || !hasCmov s.cfg) = true := by simpa using h
  rw [cmov, if_pos check, Res.finish_exn]

variable (lock : locked p = false) (feature : hasCmov s.cfg = true)
include lock feature

theorem cmov_runs : cmov cc p d x s =
    ((cmovMove cc p d x s).bind fun _ t => .ok () (t.advance (rmLength p x))).finish s := by
  have check : ¬ (locked p || !hasCmov s.cfg) = true := by simp [lock, feature]
  rw [cmov, if_neg check]

theorem cmov_raises {e : Exn} (h : cmovMove cc p d x s = .exn e) : cmov cc p d x s = takeException e s := by
  rw [cmov_runs lock feature, h, Res.exn_bind, Res.finish_exn]

theorem cmov_completes {t : State} (h : cmovMove cc p d x s = .ok () t) :
    cmov cc p d x s = .next (t.advance (rmLength p x)) := by
  rw [cmov_runs lock feature, h, Res.ok_bind, Res.finish_ok]

end

section
variable {cc : Nat} {s : State} {p : List Pfx} {x : Rm} (d : RegNum)

/-- The source is read whatever the condition (20_memory R97). -/
theorem cmovMove_wide (wide : s.wideOperand p = true) : cmovMove cc p d x s =
    (s.src32 p x).bind fun v t => .ok () (t.setR32 d (if condition t.eflags cc then v else t.r32 d)) := if_pos wide

theorem cmovMove_narrow (narrow : s.wideOperand p = false) : cmovMove cc p d x s =
    (s.src16 p x).bind fun v t => .ok () (t.setR16 d (if condition t.eflags cc then v else t.r16 d)) :=
  if_neg (Bool.eq_false_iff.1 narrow)

variable (lock : locked p = false) (feature : hasCmov s.cfg = true)
include lock feature

theorem cmov_wide_moves {t : State} {v : Dword} (wide : s.wideOperand p = true) (read : s.src32 p x = .ok v t) :
    ∃ u, cmov cc p d x s = .next u ∧ u.r32 d = (if condition s.eflags cc then v else s.r32 d) ∧
      (∀ q, q ≠ d → u.r32 q = s.r32 q) ∧
      u = { t with gpr := u.gpr, eip := s.eip + BitVec.ofNat 32 (rmLength p x) } := by
  have paging := src32_ok read
  have move := cmovMove_wide (cc := cc) (x := x) d wide
  rw [read, Res.ok_bind, paging.eflags, paging.r32] at move
  refine ⟨_, cmov_completes lock feature move, ?_, fun q other => ?_, ?_⟩
  · exact State.r32_setR32_self ..
  · exact (State.r32_setR32_ne _ _ _ _ other.symm).trans (paging.r32 q)
  · rw [← paging.eip]
    rfl

theorem cmov_narrow_moves {t : State} {v : Word16} (narrow : s.wideOperand p = false) (read : s.src16 p x = .ok v t) :
    ∃ u, cmov cc p d x s = .next u ∧ u.r16 d = (if condition s.eflags cc then v else s.r16 d) ∧
      (u.r32 d).extractLsb' 16 16 = (s.r32 d).extractLsb' 16 16 ∧ (∀ q, q ≠ d → u.r32 q = s.r32 q) ∧
      u = { t with gpr := u.gpr, eip := s.eip + BitVec.ofNat 32 (rmLength p x) } := by
  have paging := src16_ok read
  have move := cmovMove_narrow (cc := cc) (x := x) d narrow
  have low : t.r16 d = s.r16 d := congrArg (BitVec.extractLsb' 0 16) (paging.r32 d)
  rw [read, Res.ok_bind, paging.eflags, low] at move
  refine ⟨_, cmov_completes lock feature move, ?_, ?_, fun q other => ?_, ?_⟩
  · exact r16_setR16_self ..
  · exact (upperHalf_setR16 ..).trans (congrArg (BitVec.extractLsb' 16 16) (paging.r32 d))
  · exact (r32_setR16_ne _ _ _ other).trans (paging.r32 q)
  · rw [← paging.eip]
    rfl

end

/-- Settles O20: each form is `cmov` with its number in the order of the opcodes; the source is read before the
condition is looked at, and one register is written with it or with what it held. -/
theorem cmovMovesIfCondition : Obligations.CmovMovesIfCondition := by
  intro c form p d x s holds
  have ⟨cc, run, condition_eq⟩ : ∃ cc, exec (c.1 p d x) s = cmov cc p d x s ∧ holds = condition s.eflags cc := by
    revert c
    simp only [List.forall_mem_cons]
    exact ⟨⟨0, rfl, rfl⟩, ⟨1, rfl, rfl⟩, ⟨2, rfl, rfl⟩, ⟨3, rfl, rfl⟩, ⟨4, rfl, rfl⟩, ⟨5, rfl, rfl⟩, ⟨6, rfl, rfl⟩,
      ⟨7, rfl, rfl⟩, ⟨8, rfl, rfl⟩, ⟨9, rfl, rfl⟩, ⟨10, rfl, rfl⟩, ⟨11, rfl, rfl⟩, ⟨12, rfl, rfl⟩, ⟨13, rfl, rfl⟩,
      ⟨14, rfl, rfl⟩, ⟨15, rfl, rfl⟩, nofun⟩
  rw [run, condition_eq]
  refine ⟨cmov_ud, fun lock feature wide => ⟨fun e fault => ?_, fun v t read => ⟨src32_ok read, ?_⟩⟩,
    fun lock feature narrow => ⟨fun e fault => ?_, fun v t read => ⟨src16_ok read, ?_⟩⟩⟩
  · exact cmov_raises lock feature (by rw [cmovMove_wide d wide, fault, Res.exn_bind])
  · exact cmov_wide_moves d lock feature wide read
  · exact cmov_raises lock feature (by rw [cmovMove_narrow d narrow, fault, Res.exn_bind])
  · exact cmov_narrow_moves d lock feature narrow read

/-! ## The checks of the FPU instructions (47 R398, R402) -/

section
variable {s : State} {p : List Pfx} (op : State → State)

theorem fpuFrame_ud (h : locked p = true ∨ hasCmov s.cfg = false) : fpuFrame p op s = takeException .ud s := by
  have check : (locked p || !hasCmov s.cfg) = true := by simpa using h
  rw [fpuFrame, if_pos check, Res.finish_exn]

theorem fpuFrame_nm (lock : locked p = false) (feature : hasCmov s.cfg = true) (h : s.em = true ∨ s.ts = true) :
    fpuFrame p op s = takeException .nm s := by
  have check : ¬ (locked p || !hasCmov s.cfg) = true := by simp [lock, feature]
  rw [fpuFrame, if_neg check, if_pos (Bool.or_eq_true_iff.2 h), Res.finish_exn]

end

/-- Settles O25: every form is some operation behind the checks of `fpuFrame`. -/
theorem fpuChecks : Obligations.FpuChecks := by
  intro f form p i s
  have ⟨op, run⟩ : ∃ op, exec (f p i) s = fpuFrame p op s := by
    revert f
    simp only [List.forall_mem_cons]
    exact ⟨⟨_, rfl⟩, ⟨_, rfl⟩, ⟨_, rfl⟩, ⟨_, rfl⟩, ⟨_, rfl⟩, ⟨_, rfl⟩, ⟨_, rfl⟩, ⟨_, rfl⟩, ⟨_, rfl⟩, ⟨_, rfl⟩, ⟨_, rfl⟩,
      ⟨_, rfl⟩, nofun⟩
  rw [run]
  exact ⟨fpuFrame_ud op, fpuFrame_nm op⟩

/-! ## The FPU words (10_state R29, R30) -/

/-- The field of one tag is written (10_state R30). -/
theorem getLsbD_withTag (v : Word16) (k : RegNum) (t : BitVec 2) {i : Nat} (h : i < 16) :
    (withTag v k t).getLsbD i =
      if 2 * k.toNat ≤ i ∧ i < 2 * k.toNat + 2 then t.getLsbD (i - 2 * k.toNat) else v.getLsbD i := by
  have three : (3 : Word16) = (BitVec.allOnes 2).setWidth 16 := rfl
  simp only [withTag, three, BitVec.getLsbD_or, BitVec.getLsbD_and, BitVec.getLsbD_not, BitVec.getLsbD_shiftLeft,
    BitVec.getLsbD_setWidth, BitVec.getLsbD_allOnes]
  grind

theorem extractLsb'_withTag_self (v : Word16) (k : RegNum) (t : BitVec 2) :
    (withTag v k t).extractLsb' (2 * k.toNat) 2 = t := by
  refine BitVec.eq_of_getLsbD_eq fun i hi => ?_
  rw [BitVec.getLsbD_extractLsb', getLsbD_withTag _ _ _ (by omega), if_pos (by omega), Nat.add_sub_cancel_left]
  simp [hi]

theorem extractLsb'_withTag_ne (v : Word16) {k q : RegNum} (t : BitVec 2) (h : q ≠ k) :
    (withTag v k t).extractLsb' (2 * q.toNat) 2 = v.extractLsb' (2 * q.toNat) 2 := by
  have apart : q.toNat ≠ k.toNat := fun e => h (BitVec.eq_of_toNat_eq e)
  refine BitVec.eq_of_getLsbD_eq fun i hi => ?_
  rw [BitVec.getLsbD_extractLsb', BitVec.getLsbD_extractLsb', getLsbD_withTag _ _ _ (by omega), if_neg (by omega)]

/-- A bit of the status word outside TOS is written. -/
theorem tos_setBit (w : Word16) (k : Nat) (b : Bool) (h : k < 11 ∨ 14 ≤ k) (hk : k < 16) :
    (setBit w k b).extractLsb' 11 3 = w.extractLsb' 11 3 := by
  refine BitVec.eq_of_getLsbD_eq fun i hi => ?_
  rw [BitVec.getLsbD_extractLsb', BitVec.getLsbD_extractLsb', getLsbD_setBit _ _ _ _ hk, if_neg (by omega)]

/-- Which register ST(i) is, and what it holds, is a matter of the data registers and TOS. -/
theorem st_congr {s t : State} (fpr : t.fpr = s.fpr) (tos : t.tos = s.tos) (i : RegNum) : t.st i = s.st i := by
  simp only [State.st, State.stIndex, fpr, tos]

theorem stIndex_zero (s : State) : s.stIndex 0 = s.tos := BitVec.add_zero _

section
variable (s : State) (v : FpuReg)

@[simp] theorem st_setSt_self (i : RegNum) : (s.setSt i v).st i = v := Vector.getElem_set_self _

/-- A write of ST(0) leaves every other data register. -/
theorem getElem_setSt_zero_ne {q : RegNum} (h : q ≠ s.tos) : (s.setSt 0 v).fpr[q.toNat] = s.fpr[q.toNat] := by
  have apart : (s.stIndex 0).toNat ≠ q.toNat := fun e => h ((BitVec.eq_of_toNat_eq e).symm.trans (stIndex_zero s))
  exact Vector.getElem_set_ne (s.stIndex 0).isLt q.isLt apart

end

theorem getLsbD_stackFaultWord (s : State) (k : Nat) : s.stackFaultWord.getLsbD k =
    if k = bitC1 then false
    else if k = bitIE ∨ k = bitStackFault then true
    else if k = bitES ∨ k = bitB then (!s.invalidMasked || s.fsw.getLsbD k)
    else s.fsw.getLsbD k := by
  unfold State.stackFaultWord raisePending
  dsimp only
  split <;> simp (disch := decide) only [getLsbD_setBit] <;> grind

/-! ## FCMOVcc (47 R398, R421 to R428) -/

section
variable (s : State)

/-- C0, C2 and C3 are the only bits drawn (47 R399 (b)). -/
theorem getLsbD_freeCodes {k : Nat} (h0 : k ≠ 8) (h2 : k ≠ 10) (h3 : k ≠ 14) :
    s.freeCodes.fsw.getLsbD k = s.fsw.getLsbD k := by
  simp (disch := decide) only [State.freeCodes, getLsbD_setBit, if_neg h0, if_neg h2, if_neg h3]

@[simp] theorem tos_freeCodes : s.freeCodes.tos = s.tos := by
  simp (disch := decide) only [State.tos, State.freeCodes, tos_setBit]

@[simp] theorem st_freeCodes (i : RegNum) : s.freeCodes.st i = s.st i := st_congr (by rfl) (tos_freeCodes s) i

end

section
variable {s : State} {p : List Pfx} {i : RegNum}

theorem not_underflow (full : stackFull s i) : s.underflow i = false := Bool.or_eq_false_iff.2 full

theorem fcmovMove_full (full : stackFull s i) (cond : Bool) :
    fcmovMove cond i s = (if cond then s.copyTop i else s).freeCodes :=
  if_neg (Bool.eq_false_iff.1 (not_underflow full))

/-- ST(0) receives the value and the tag of ST(i), or keeps its own. -/
theorem fcmov_moves (cc : Nat) (runs : fpuRuns s p) (full : stackFull s i) :
    ∃ u, fcmov cc p i s = .next u ∧ u.st 0 = (if condition s.eflags cc then s.st i else s.st 0) ∧
      (∀ q : RegNum, q ≠ s.tos → u.fpr[q.toNat] = s.fpr[q.toNat]) ∧
      u.tag s.tos = (if condition s.eflags cc then s.tag (s.stIndex i) else s.tag s.tos) ∧
      (∀ q : RegNum, q ≠ s.tos → u.tag q = s.tag q) ∧
      (∀ k, k ≠ 8 → k ≠ 10 → k ≠ 14 → u.fsw.getLsbD k = s.fsw.getLsbD k) ∧
      u = { s with fpr := u.fpr, ftw := u.ftw, fsw := u.fsw, draws := u.draws,
                   eip := s.eip + BitVec.ofNat 32 (p.length + 2) } := by
  have run := fpuFrame_runs (fun t => fcmovMove (condition t.eflags cc) i t) runs
  rw [fcmovMove_full full] at run
  refine ⟨_, run, ?_⟩
  cases condition s.eflags cc with
  | true =>
    refine ⟨(st_freeCodes _ 0).trans (st_setSt_self s (s.st i) 0), fun q other => ?_, ?_, fun q other => ?_,
      fun k => getLsbD_freeCodes (s.copyTop i), rfl⟩
    · exact getElem_setSt_zero_ne s (s.st i) other
    · exact extractLsb'_withTag_self ..
    · exact extractLsb'_withTag_ne _ _ other
  | false =>
    exact ⟨st_freeCodes s 0, fun _ _ => rfl, rfl, fun _ _ => rfl, fun k => getLsbD_freeCodes s, rfl⟩

end

/-- Settles O21: each form is `fcmov` with the number of its condition. -/
theorem fcmovMovesIfCondition : Obligations.FcmovMovesIfCondition := by
  intro c form p i s runs full holds
  have ⟨cc, run, condition_eq⟩ : ∃ cc, exec (c.1 p i) s = fcmov cc p i s ∧ holds = condition s.eflags cc := by
    revert c
    simp only [List.forall_mem_cons]
    exact ⟨⟨2, rfl, rfl⟩, ⟨4, rfl, rfl⟩, ⟨6, rfl, rfl⟩, ⟨10, rfl, rfl⟩, ⟨3, rfl, rfl⟩, ⟨5, rfl, rfl⟩, ⟨7, rfl, rfl⟩,
      ⟨11, rfl, rfl⟩, nofun⟩
  rw [run, condition_eq]
  exact fcmov_moves cc runs full

/-! ## The pop and the flags of a comparison (47 R402) -/

/-- The condition codes lie outside TOS (10_state R29). -/
theorem code_outside_tos : ∀ k ∈ [bitC0, bitC2, bitC3], k < 11 ∨ 14 ≤ k := by decide

/-- `u` has the tags of `s` and the status word `w`, but for a pop. -/
structure Popped (s u : State) (w : Word16) (pop : Bool) : Prop where
  bits : ∀ k, k < 11 ∨ 14 ≤ k → u.fsw.getLsbD k = w.getLsbD k
  tos : u.tos = if pop then s.tos + 1 else s.tos
  top : u.tag s.tos = if pop then 3 else s.tag s.tos
  others : ∀ q, q ≠ s.tos → u.tag q = s.tag q

section
variable {s t : State}

theorem popped_popIf (tos : t.tos = s.tos) (ftw : t.ftw = s.ftw) (pop : Bool) (len : Nat) :
    Popped s ((t.popIf pop).advance len) t.fsw pop := by
  have tags (q : RegNum) : t.tag q = s.tag q := by rw [State.tag, State.tag, ftw]
  cases pop with
  | false => exact ⟨fun _ _ => rfl, tos, tags s.tos, fun q _ => tags q⟩
  | true =>
    have popped : ((t.popIf true).advance len).ftw = withTag t.ftw s.tos 3 := by rw [← tos]; rfl
    refine ⟨fun k => getLsbD_withTos_of_outside t.fsw (t.tos + 1), ?_, ?_, fun q other => ?_⟩
    · exact (extractLsb'_withTos ..).trans (congrArg (· + 1) tos)
    · rw [State.tag, popped, extractLsb'_withTag_self]
      rfl
    · rw [State.tag, popped, extractLsb'_withTag_ne _ _ other]
      exact tags q

@[simp] theorem popIf_eflags (s : State) (pop : Bool) : (s.popIf pop).eflags = s.eflags := by cases pop <;> rfl

@[simp] theorem popIf_fpr (s : State) (pop : Bool) : (s.popIf pop).fpr = s.fpr := by cases pop <;> rfl

theorem flag_setCompareFlags (s : State) (z p c : Bool) (k : Nat) : (s.setCompareFlags z p c).flag k =
    if k = bitCF then c else if k = bitPF then p else if k = bitZF then z else s.flag k := by
  simp (disch := decide) only [State.flag, State.setCompareFlags_eflags, getLsbD_setBit]

/-- The state a comparison reaches before its pop: a status word and the three flags. -/
def State.compared (s : State) (w : Word16) (z p c : Bool) : State := State.setCompareFlags { s with fsw := w } z p c

/-- `u` is `s` after a comparison that wrote the flags `z`, `p`, `c` and the status word `w`, and popped if `pop`. -/
structure Answered (s u : State) (w : Word16) (z p c pop : Bool) : Prop extends Popped s u w pop where
  zf : u.flag bitZF = z
  pf : u.flag bitPF = p
  cf : u.flag bitCF = c
  flags : ∀ k, k ≠ bitCF → k ≠ bitPF → k ≠ bitZF → u.flag k = s.flag k

theorem answered_compared {w : Word16} (tos : w.extractLsb' 11 3 = s.tos) (z p c pop : Bool) (len : Nat) :
    Answered s (((s.compared w z p c).popIf pop).advance len) w z p c pop := by
  have flag (k : Nat) : (((s.compared w z p c).popIf pop).advance len).flag k =
      if k = bitCF then c else if k = bitPF then p else if k = bitZF then z else s.flag k :=
    (congrArg (BitVec.getLsbD · k) (popIf_eflags ..)).trans (flag_setCompareFlags _ z p c k)
  have popped : Popped s (((s.compared w z p c).popIf pop).advance len) (s.compared w z p c).fsw pop :=
    popped_popIf (t := s.compared w z p c) tos rfl pop len
  refine ⟨popped, flag _, flag _, flag _, fun k ncf npf nzf => ?_⟩
  rw [flag, if_neg ncf, if_neg npf, if_neg nzf]

end

/-! ## Stack underflow (47 R399, R407) -/

section
variable (s : State)

/-- The state FCMOVcc reaches before C0, C2 and C3 are drawn (47 R399, log 36). -/
def State.moveFaulted : State :=
  if s.invalidMasked then State.freeTop { s with fsw := s.stackFaultWord } else { s with fsw := s.stackFaultWord }

theorem fcmovMove_underflow {i : RegNum} (h : s.underflow i = true) (cond : Bool) :
    fcmovMove cond i s = s.moveFaulted.freeCodes := if_pos h

/-- A comparison writes the status word of #IS; its flags and its pop are free (47 R407, log 36). -/
theorem compareTop_underflow {i : RegNum} (h : s.underflow i = true) (quiet pop : Bool) :
    ∃ z q c pops, compareTop quiet pop i s = (s.drew.compared s.stackFaultWord z q c).popIf pops :=
  ⟨_, _, _, _, if_pos h⟩

theorem tos_stackFaultWord : s.stackFaultWord.extractLsb' 11 3 = s.tos := by
  unfold State.stackFaultWord raisePending
  dsimp only
  split <;> simp (disch := decide) only [State.tos, tos_setBit]

theorem getLsbD_stackFaultWord_code :
    ∀ k ∈ [bitC0, bitC2, bitC3], s.stackFaultWord.getLsbD k = s.fsw.getLsbD k := by
  simp only [List.forall_mem_cons, getLsbD_stackFaultWord]
  exact ⟨rfl, rfl, rfl, nofun⟩

/-- The bits of the status word that stack underflow decides, in a word that may differ in others. -/
structure StackFaultBits (w : Word16) : Prop where
  c1 : w.getLsbD bitC1 = false
  invalid : w.getLsbD bitIE = true
  fault : w.getLsbD bitStackFault = true
  pending : s.invalidMasked = false → w.getLsbD bitES = true
  quiet : s.invalidMasked = true → w.getLsbD bitES = s.fpuPending

theorem stackFaultBits_of_agrees {w : Word16} (h : ∀ k < 8, w.getLsbD k = s.stackFaultWord.getLsbD k)
    (c1 : w.getLsbD bitC1 = s.stackFaultWord.getLsbD bitC1) : StackFaultBits s w := by
  refine ⟨?_, ?_, ?_, fun unmasked => ?_, fun masked => ?_⟩
  · rw [c1, getLsbD_stackFaultWord]
    rfl
  · rw [h _ (by decide), getLsbD_stackFaultWord]
    rfl
  · rw [h _ (by decide), getLsbD_stackFaultWord]
    rfl
  · rw [h _ (by decide), getLsbD_stackFaultWord, unmasked]
    rfl
  · rw [h _ (by decide), getLsbD_stackFaultWord, masked]
    rfl

theorem moveFaulted_fields :
    s.moveFaulted.fsw = s.stackFaultWord ∧ s.moveFaulted.eflags = s.eflags ∧
      s.moveFaulted = { s with fpr := s.moveFaulted.fpr, ftw := s.moveFaulted.ftw, fsw := s.moveFaulted.fsw
                               eflags := s.moveFaulted.eflags, draws := s.moveFaulted.draws } := by
  unfold State.moveFaulted
  split <;> exact ⟨rfl, rfl, rfl⟩

theorem moveFaulted_fpr (unmasked : s.invalidMasked = false) : s.moveFaulted.fpr = s.fpr := by
  rw [State.moveFaulted, unmasked]
  rfl

/-- Only the register at the top of the stack may have changed. -/
theorem moveFaulted_others {q : RegNum} (other : q ≠ s.tos) :
    s.moveFaulted.fpr[q.toNat] = s.fpr[q.toNat] ∧ s.moveFaulted.tag q = s.tag q := by
  let t : State := { s with fsw := s.stackFaultWord }
  have notTop : q ≠ t.tos := fun e => other (e.trans (tos_stackFaultWord s))
  unfold State.moveFaulted
  split
  · exact ⟨getElem_setSt_zero_ne t _ notTop, extractLsb'_withTag_ne _ _ notTop⟩
  · exact ⟨rfl, rfl⟩

end

/-- Settles O22: the status word is that of #IS, but for the bits each family writes on top of it. -/
theorem stackUnderflow : Obligations.StackUnderflow := by
  intro c form p i s runs empty
  have forms : (c.2 = true ∧ ∃ cc, exec (c.1 p i) s = fcmov cc p i s) ∨
      (c.2 = false ∧ ∃ quiet pop, exec (c.1 p i) s = fpuFrame p (compareTop quiet pop i) s) := by
    revert c
    simp only [List.forall_mem_cons]
    exact ⟨.inl ⟨trivial, _, rfl⟩, .inl ⟨trivial, _, rfl⟩, .inl ⟨trivial, _, rfl⟩, .inl ⟨trivial, _, rfl⟩,
      .inl ⟨trivial, _, rfl⟩, .inl ⟨trivial, _, rfl⟩, .inl ⟨trivial, _, rfl⟩, .inl ⟨trivial, _, rfl⟩,
      .inr ⟨trivial, _, _, rfl⟩, .inr ⟨trivial, _, _, rfl⟩, .inr ⟨trivial, _, _, rfl⟩, .inr ⟨trivial, _, _, rfl⟩, nofun⟩
  have ⟨_, _, _, _, notPending⟩ := runs
  obtain ⟨move, cc, run⟩ | ⟨compare, quiet, pop, run⟩ := forms
  · obtain ⟨word, eflags, fields⟩ := moveFaulted_fields s
    have bits : StackFaultBits s s.moveFaulted.freeCodes.fsw := by
      refine stackFaultBits_of_agrees s (fun k low => ?_) ?_
      · rw [getLsbD_freeCodes _ (by omega) (by omega) (by omega), word]
      · rw [getLsbD_freeCodes _ (by decide) (by decide) (by decide), word]
    have tos : s.moveFaulted.tos = s.tos := (congrArg (BitVec.extractLsb' 11 3) word).trans (tos_stackFaultWord s)
    rw [run, fcmov, fpuFrame_runs _ runs, fcmovMove_underflow s empty]
    refine ⟨_, rfl, bits.c1, bits.invalid, bits.fault,
      fun unmasked => ⟨bits.pending unmasked, moveFaulted_fpr s unmasked⟩,
      fun masked => (bits.quiet masked).trans notPending, fun q => moveFaulted_others s,
      fun _ => ⟨eflags, (tos_freeCodes _).trans tos⟩, fun compare => absurd (move.symm.trans compare) nofun,
      fun k _ _ _ => ?_, ?_⟩
    · exact congrArg (BitVec.getLsbD · k) eflags
    · exact congrArg (fun t => (State.freeCodes t).advance (p.length + 2)) fields
  · obtain ⟨z, q, cf, pops, top⟩ := compareTop_underflow s empty quiet pop
    have answered := answered_compared (s := s.drew) (tos_stackFaultWord s) z q cf pops (p.length + 2)
    have bits := stackFaultBits_of_agrees s (fun k low => answered.bits k (by omega)) (answered.bits bitC1 (by decide))
    have fpr : ((s.drew.compared s.stackFaultWord z q cf).popIf pops).fpr = s.fpr := popIf_fpr ..
    rw [run, fpuFrame_runs _ runs, top]
    refine ⟨_, rfl, bits.c1, bits.invalid, bits.fault, fun unmasked => ⟨bits.pending unmasked, fpr⟩,
      fun masked => (bits.quiet masked).trans notPending, fun q other => ⟨?_, answered.others q other⟩,
      fun move => absurd (move.symm.trans compare) nofun, fun _ => ⟨fpr, fun k code => ?_⟩, answered.flags, ?_⟩
    · exact congrArg (fun f : Vector FpuReg 8 => f[q.toNat]) fpr
    · exact (answered.bits k (code_outside_tos k code)).trans (getLsbD_stackFaultWord_code s k code)
    · cases pops <;> rfl

/-! ## The order of the 80-bit numbers (47 R407) -/

/-- The number a register holds without its sign, times 2^16446. -/
def magnitude (v : FpuReg) : Nat := significand v * 2 ^ max (exponent v) 1

/-- What `realKey` compares in its place: the exponent above the significand, and 0 for a zero. -/
def keyMagnitude (v : FpuReg) : Nat := if significand v = 0 then 0 else max (exponent v) 1 * 2 ^ 64 + significand v

theorem realKey_eq (v : FpuReg) :
    realKey v = if v.getLsbD 79 then -(keyMagnitude v : Int) else (keyMagnitude v : Int) := by
  unfold realKey keyMagnitude
  grind

theorem realValue_eq (v : FpuReg) :
    realValue v = if v.getLsbD 79 then -(magnitude v : Int) else (magnitude v : Int) := by
  unfold realValue magnitude
  split
  · exact Int.neg_one_mul _
  · exact Int.one_mul _

theorem significand_lt (v : FpuReg) : significand v < 2 ^ 64 := BitVec.isLt _

/-- A number of an exponent above the lowest is normal: its integer bit is set. -/
theorem le_significand_of_isOrdered {v : FpuReg} (ordered : isOrdered v) (high : 1 < max (exponent v) 1) :
    2 ^ 63 ≤ significand v := by
  have nonzero : exponent v ≠ 0 := by omega
  have integerBit : v.getLsbD 63 = true := by simpa [unsupported, nonzero] using ordered.2
  refine Nat.ge_two_pow_of_testBit ?_
  show (v.extractLsb' 0 64).getLsbD 63 = true
  rw [BitVec.getLsbD_extractLsb']
  exact integerBit

/-- Two significands of 64 bits on their scales: the higher scale decides if its significand is normal. -/
theorem mul_two_pow_lt_of_lt {x y m n : Nat} (bound : x < 2 ^ 64) (normal : 2 ^ 63 ≤ y) (h : m < n) :
    x * 2 ^ m < y * 2 ^ n :=
  calc x * 2 ^ m < 2 ^ 64 * 2 ^ m := Nat.mul_lt_mul_of_pos_right bound (Nat.two_pow_pos m)
    _ = 2 ^ 63 * 2 ^ (m + 1) := by ring
    _ ≤ y * 2 ^ n := Nat.mul_le_mul normal (Nat.pow_le_pow_right (by decide) h)

theorem magnitude_lt_of_keyMagnitude_lt {a b : FpuReg} (ordered : isOrdered b) (h : keyMagnitude a < keyMagnitude b) :
    magnitude a < magnitude b := by
  have ha := significand_lt a
  have hb := significand_lt b
  unfold keyMagnitude at h
  have nonzero : significand b ≠ 0 := fun zero => by simp [zero] at h
  rw [if_neg nonzero] at h
  obtain lower | same | higher := lt_trichotomy (max (exponent a) 1) (max (exponent b) 1)
  · exact mul_two_pow_lt_of_lt ha (le_significand_of_isOrdered ordered (by omega)) lower
  · have less : significand a < significand b := by split at h <;> omega
    unfold magnitude
    rw [same]
    exact Nat.mul_lt_mul_of_pos_right less (Nat.two_pow_pos _)
  · have zero : significand a = 0 := by
      by_contra nz
      rw [if_neg nz] at h
      omega
    unfold magnitude
    rw [zero, Nat.zero_mul]
    exact Nat.mul_pos (Nat.pos_of_ne_zero nonzero) (Nat.two_pow_pos _)

theorem magnitude_eq_of_keyMagnitude_eq {a b : FpuReg} (h : keyMagnitude a = keyMagnitude b) :
    magnitude a = magnitude b := by
  have ha := significand_lt a
  have hb := significand_lt b
  unfold keyMagnitude at h
  by_cases zero : significand a = 0
  · have zero' : significand b = 0 := by
      by_contra nz
      rw [if_pos zero, if_neg nz] at h
      omega
    rw [magnitude, magnitude, zero, zero', Nat.zero_mul, Nat.zero_mul]
  · have nonzero : significand b ≠ 0 := fun e => by simp [zero, e] at h
    rw [if_neg zero, if_neg nonzero] at h
    have scale : max (exponent a) 1 = max (exponent b) 1 := by omega
    have digits : significand a = significand b := by omega
    rw [magnitude, magnitude, scale, digits]

theorem keyMagnitude_eq_zero_iff (v : FpuReg) : keyMagnitude v = 0 ↔ magnitude v = 0 := by
  simp only [keyMagnitude, magnitude, Nat.mul_eq_zero, Nat.pow_eq_zero]
  grind

section
variable {a b : FpuReg} (ha : isOrdered a) (hb : isOrdered b)
include ha hb

theorem keyMagnitude_lt_iff : keyMagnitude a < keyMagnitude b ↔ magnitude a < magnitude b := by
  refine ⟨magnitude_lt_of_keyMagnitude_lt hb, fun h => ?_⟩
  obtain less | same | greater := lt_trichotomy (keyMagnitude a) (keyMagnitude b)
  · exact less
  · exact absurd h (Nat.not_lt.2 (magnitude_eq_of_keyMagnitude_eq same).ge)
  · exact absurd h (Nat.lt_asymm (magnitude_lt_of_keyMagnitude_lt ha greater))

/-- The order the comparison computes is that of the real numbers: equal signs compare the magnitudes, one way round or
the other, and unequal signs ask only which of them is 0. -/
theorem realKey_lt_iff : realKey a < realKey b ↔ realValue a < realValue b := by
  have less := keyMagnitude_lt_iff ha hb
  have greater := keyMagnitude_lt_iff hb ha
  have zero := keyMagnitude_eq_zero_iff a
  have zero' := keyMagnitude_eq_zero_iff b
  rw [realKey_eq, realKey_eq, realValue_eq, realValue_eq]
  cases a.getLsbD 79 <;> cases b.getLsbD 79 <;> simp only [if_true, if_false, Bool.false_eq_true] <;> omega

end

/-! ## FCOMI, FCOMIP, FUCOMI, FUCOMIP (47 R402 to R407) -/

theorem compareFlags_eq (pop z p c : Bool) (s : State) :
    compareFlags pop z p c s = (s.compared (setBit s.fsw bitC1 false) z p c).popIf pop := rfl

theorem isSnan_of_not_isNan {v : FpuReg} (h : isNan v = false) : isSnan v = false := by rw [isSnan, h, Bool.false_and]

section
variable {s : State} {p : List Pfx} {i : RegNum} {quiet pop : Bool}

theorem compareTop_ordered (full : stackFull s i) (ha : isOrdered (s.st 0)) (hb : isOrdered (s.st i)) :
    compareTop quiet pop i s = compareFlags pop (decide (realValue (s.st 0) = realValue (s.st i))) false
      (decide (realValue (s.st 0) < realValue (s.st i))) s := by
  have less := realKey_lt_iff ha hb
  have greater := realKey_lt_iff hb ha
  obtain ⟨nan, supported⟩ := ha
  obtain ⟨nan', supported'⟩ := hb
  simp only [compareTop, not_underflow full, nan, nan', supported, supported', isSnan_of_not_isNan, Bool.or_self,
    Bool.false_eq_true, if_false, gt_iff_lt, less, greater]
  obtain lt | eq | gt := lt_trichotomy (realValue (s.st 0)) (realValue (s.st i))
  · simp only [lt, lt.ne, lt.not_gt, if_true, if_false, decide_true, decide_false]
  · simp only [eq, lt_irrefl, if_false, decide_true, decide_false]
  · simp only [gt, gt.ne', gt.not_gt, if_true, decide_false]

end

/-- Settles O23: one comparison of real numbers writes the three flags, C1 is cleared, and the stack pops. -/
theorem compareOrdered : Obligations.CompareOrdered := by
  intro c form p i s runs full ha hb
  have ⟨quiet, run⟩ : ∃ quiet, exec (c.1 p i) s = fpuFrame p (compareTop quiet c.2 i) s := by
    revert c
    simp only [List.forall_mem_cons]
    exact ⟨⟨_, rfl⟩, ⟨_, rfl⟩, ⟨_, rfl⟩, ⟨_, rfl⟩, nofun⟩
  rw [run, fpuFrame_runs _ runs, compareTop_ordered full ha hb, compareFlags_eq]
  have answered := answered_compared (s := s) (tos_setBit s.fsw bitC1 false (by decide) (by decide))
    (decide (realValue (s.st 0) = realValue (s.st i))) false (decide (realValue (s.st 0) < realValue (s.st i))) c.2
    (p.length + 2)
  refine ⟨_, rfl, answered.zf, answered.pf, answered.cf, answered.flags, ?_, fun k notC1 outside => ?_, answered.tos,
    answered.top, answered.others, ?_⟩
  · rw [answered.bits _ (by decide), getLsbD_setBit _ _ _ _ (by decide), if_pos rfl]
  · rw [answered.bits k outside, getLsbD_setBit _ _ _ _ (by decide), if_neg notC1]
  · cases c.2 <;> rfl

/-! ## Unordered operands (47 R402 steps 5 to 7) -/

/-- A signalling NaN or an unsupported format among the operands: #IA whatever the instruction. -/
def State.hardOperands (s : State) (i : RegNum) : Bool :=
  unsupported (s.st 0) || unsupported (s.st i) || isSnan (s.st 0) || isSnan (s.st i)

/-- A NaN among the operands. -/
def State.nanOperands (s : State) (i : RegNum) : Bool := isNan (s.st 0) || isNan (s.st i)

/-- The status word after #IA, before it becomes pending: IE set, C1 = 0 (log 36). -/
def State.invalidWord (s : State) : Word16 := setBit (setBit s.fsw bitIE true) bitC1 false

section
variable {s : State} {i : RegNum} {quiet : Bool}

theorem compareTop_invalid (full : stackFull s i) (pop : Bool)
    (invalid : s.hardOperands i = true ∨ s.nanOperands i = true ∧ quiet = false) :
    compareTop quiet pop i s = compareInvalid pop s := by
  refine (if_neg (Bool.eq_false_iff.1 (not_underflow full))).trans ?_
  cases hard : s.hardOperands i with
  | true => exact if_pos hard
  | false =>
    obtain ⟨nan, rfl⟩ := invalid.resolve_left (Bool.eq_false_iff.1 hard)
    exact (if_neg (Bool.eq_false_iff.1 hard)).trans (if_pos nan)

theorem compareTop_quiet (full : stackFull s i) (pop : Bool) (hard : ¬ s.hardOperands i = true)
    (nan : s.nanOperands i = true) : compareTop true pop i s = compareFlags pop true true true s :=
  (if_neg (Bool.eq_false_iff.1 (not_underflow full))).trans ((if_neg hard).trans (if_pos nan))

end

section
variable (s : State)

theorem compareInvalid_masked (pop : Bool) (masked : s.invalidMasked = true) :
    compareInvalid pop s = (s.compared s.invalidWord true true true).popIf pop := if_pos masked

/-- The state an unmasked #IA reaches before the pop it may make. -/
def State.invalidPending : State := { s.drew with fsw := raisePending s.invalidWord }

/-- Whether an unmasked #IA pops is free, for a form that pops (log 36). -/
theorem compareInvalid_unmasked (pop : Bool) (unmasked : s.invalidMasked = false) :
    compareInvalid pop s = s.invalidPending.popIf (pop && (s.free 1).getLsbD 0) :=
  if_neg (Bool.eq_false_iff.1 unmasked)

theorem getLsbD_invalidWord (k : Nat) : s.invalidWord.getLsbD k =
    if k = bitC1 then false else if k = bitIE then true else s.fsw.getLsbD k := by
  simp (disch := decide) only [State.invalidWord, getLsbD_setBit]

theorem tos_invalidWord : s.invalidWord.extractLsb' 11 3 = s.tos := by
  simp (disch := decide) only [State.tos, State.invalidWord, tos_setBit]

theorem tos_invalidPending : s.invalidPending.tos = s.tos := by
  simp (disch := decide) only [State.tos, State.invalidPending, raisePending, State.invalidWord, tos_setBit]

theorem getLsbD_invalidPending (k : Nat) : s.invalidPending.fsw.getLsbD k =
    if k = bitB then true else if k = bitES then true else s.invalidWord.getLsbD k := by
  simp (disch := decide) only [State.invalidPending, raisePending, getLsbD_setBit]

theorem getLsbD_invalidPending_code :
    ∀ k ∈ [bitC0, bitC2, bitC3], s.invalidPending.fsw.getLsbD k = s.fsw.getLsbD k := by
  simp only [List.forall_mem_cons, getLsbD_invalidPending, getLsbD_invalidWord]
  exact ⟨rfl, rfl, rfl, nofun⟩

end

/-- What the answer unordered leaves, with a status word that is the old one but for IE and C1 (47 R402 step 6). -/
theorem Answered.unordered {s u : State} {w : Word16} {pop : Bool} (answered : Answered s u w true true true pop)
    (clear : w.getLsbD bitC1 = false) (agrees : ∀ k, k ≠ bitIE → k ≠ bitC1 → w.getLsbD k = s.fsw.getLsbD k)
    (notPending : s.fpuPending = false) :
    (u.fsw.getLsbD bitC1 = false ∧ ∀ k ∈ [bitC0, bitC2, bitC3], u.fsw.getLsbD k = s.fsw.getLsbD k) ∧
      u.fpuPending = false ∧
      ∀ k, k ≠ bitIE → k ≠ bitC1 → (k < 11 ∨ 14 ≤ k) → u.fsw.getLsbD k = s.fsw.getLsbD k := by
  have kept (k : Nat) (notIE : k ≠ bitIE) (notC1 : k ≠ bitC1) (outside : k < 11 ∨ 14 ≤ k) :
      u.fsw.getLsbD k = s.fsw.getLsbD k := (answered.bits k outside).trans (agrees k notIE notC1)
  have other : ∀ k ∈ [bitC0, bitC2, bitC3], k ≠ bitIE ∧ k ≠ bitC1 := by decide
  refine ⟨⟨(answered.bits _ (by decide)).trans clear, fun k code => ?_⟩, ?_, kept⟩
  · exact kept k (other k code).1 (other k code).2 (code_outside_tos k code)
  · exact (kept bitES (by decide) (by decide) (by decide)).trans notPending

/-- Settles O24: the three answers write three status words; only an unmasked #IA writes no flag. -/
theorem compareUnordered : Obligations.CompareUnordered := by
  intro c form p i s runs full hard nan invalid unordered
  have run : exec (c.1 p i) s = fpuFrame p (compareTop c.2.1 c.2.2 i) s := by
    revert c
    simp only [List.forall_mem_cons]
    exact ⟨rfl, rfl, rfl, rfl, nofun⟩
  have ⟨_, _, _, _, notPending⟩ := runs
  rw [run, fpuFrame_runs _ runs]
  by_cases inv : invalid
  · rw [compareTop_invalid full c.2.2 inv]
    cases mask : s.invalidMasked with
    | true =>
      have answered := answered_compared (tos_invalidWord s) true true true c.2.2 (p.length + 2)
      have ⟨⟨c1, codes⟩, pending, bits⟩ := answered.unordered (getLsbD_invalidWord s bitC1)
        (fun k notIE notC1 => by rw [getLsbD_invalidWord, if_neg notC1, if_neg notIE]) notPending
      rw [compareInvalid_masked s c.2.2 mask]
      refine ⟨_, rfl, c1, codes, answered.others, ?_, fun _ => ⟨answered.zf, answered.pf, answered.cf, answered.flags,
        pending, answered.tos, answered.top, bits, fun quiet => absurd inv quiet⟩, fun _ => ?_, nofun⟩
      · cases c.2.2 <;> rfl
      · exact (answered.bits bitIE (by decide)).trans (getLsbD_invalidWord s bitIE)
    | false =>
      have popped := popped_popIf (tos_invalidPending s) rfl (c.2.2 && (s.free 1).getLsbD 0) (p.length + 2)
      have word {k : Nat} (outside : k < 11 ∨ 14 ≤ k) := (popped.bits k outside).trans (getLsbD_invalidPending s k)
      rw [compareInvalid_unmasked s c.2.2 mask]
      refine ⟨_, rfl, ?_, fun k code => ?_, popped.others, ?_, fun answers => ?_, fun _ => ?_,
        fun _ _ => ⟨popIf_eflags .., word (k := bitES) (by decide), fun stays => ?_⟩⟩
      · exact (word (by decide)).trans (getLsbD_invalidWord s bitC1)
      · exact (popped.bits k (code_outside_tos k code)).trans (getLsbD_invalidPending_code s k code)
      · cases c.2.2 && (s.free 1).getLsbD 0 <;> rfl
      · exact absurd (answers.resolve_left (not_not.2 inv)) nofun
      · exact (word (by decide)).trans (getLsbD_invalidWord s bitIE)
      · rw [stays]
        exact ⟨tos_invalidPending s, rfl⟩
  · have notHard : ¬ s.hardOperands i = true := fun h => inv (.inl h)
    have isNan : s.nanOperands i = true := unordered.resolve_right notHard
    have quiet : c.2.1 = true := Bool.of_not_eq_false fun loud => inv (.inr ⟨isNan, loud⟩)
    have answered := answered_compared (s := s) (tos_setBit s.fsw bitC1 false (by decide) (by decide)) true true true
      c.2.2 (p.length + 2)
    have word (k : Nat) := getLsbD_setBit s.fsw bitC1 k false (by decide)
    have ⟨⟨c1, codes⟩, pending, bits⟩ := answered.unordered (word bitC1) (fun k _ notC1 => by rw [word, if_neg notC1])
      notPending
    rw [quiet, compareTop_quiet full c.2.2 notHard isNan, compareFlags_eq]
    refine ⟨_, rfl, c1, codes, answered.others, ?_, fun _ => ⟨answered.zf, answered.pf, answered.cf, answered.flags,
      pending, answered.tos, answered.top, bits, fun _ => ?_⟩, fun h => absurd h inv, fun h => absurd h inv⟩
    · cases c.2.2 <;> rfl
    · exact (answered.bits bitIE (by decide)).trans (word bitIE)

/-! ## RDPMC (47 R410) -/

theorem exec_rdpmc (p : List Pfx) (s : State) :
    exec (.rdpmc p) s = plainFrame p (fun t =>
      if !t.cfg.rdpmc then .exn .ud
      else if (t.r32 rECX).toNat > 1 then .exn .gp
      else if !t.pce && t.cplNow != 0 then .exn .gp
      else .ok () (t.setEdxEax (if t.r32 rECX = 0 then t.ctr0.setWidth 64 else t.ctr1.setWidth 64))) s := rfl

/-- ECX selects a counter when it is 0 or 1 (47 R410). -/
theorem toNat_gt_one_iff (v : Dword) : v.toNat > 1 ↔ v ≠ 0 ∧ v ≠ 1 := by
  bv_omega

/-- Settles O32: the three checks in their order, then one write of EDX:EAX. -/
theorem rdpmcReadsCounter : Obligations.RdpmcReadsCounter := by
  refine fun p s lock => ⟨fun missing => ?_, fun feature denied => ?_, fun feature counter allowed => ?_⟩ <;>
    rw [exec_rdpmc]
  · exact plainFrame_raises lock (by simp [missing])
  · refine plainFrame_raises lock ?_
    rw [feature, if_neg (by decide)]
    by_cases counter : (s.r32 rECX).toNat > 1
    · exact if_pos counter
    · have ⟨pce, cpl⟩ := denied.resolve_left (mt (toNat_gt_one_iff _).2 counter)
      rw [if_neg counter]
      exact if_pos (Bool.and_eq_true_iff.2 ⟨by rw [pce, Bool.not_false], bne_iff_ne.2 cpl⟩)
  · have selects : ¬ (s.r32 rECX).toNat > 1 := fun above =>
      have ⟨ne0, ne1⟩ := (toNat_gt_one_iff _).1 above
      counter.elim ne0 ne1
    have access : ¬ (!s.pce && s.cplNow != 0) = true := by
      obtain pce | cpl := allowed
      · simp [pce]
      · simp [cpl]
    have widen (c : BitVec 40) : (c.setWidth 64).toNat = c.toNat := BitVec.toNat_setWidth_of_le (by decide)
    let read : Qword := if s.r32 rECX = 0 then s.ctr0.setWidth 64 else s.ctr1.setWidth 64
    refine ⟨(s.setEdxEax read).advance (p.length + 2), plainFrame_completes lock ?_, ?_,
      fun q => r32_setEdxEax_ne s read, rfl⟩
    · rw [feature, if_neg (by decide), if_neg selects, if_neg access]
    · refine (congrArg BitVec.toNat (edxEax_setEdxEax s read)).trans ?_
      rw [apply_ite BitVec.toNat, widen, widen]

/-! ## UD2 (47 R412) -/

/-- What was raised is recorded, however its delivery goes (log 49). -/
theorem raise_lastExn {c : Cause} {savedEip : Dword} {s t : State} (h : raise c savedEip s = .next t) :
    t.lastExn = some ⟨c.vector, c.code, savedEip⟩ := by
  obtain delivered | ⟨e, -, rfl⟩ := raise_next h
  · rw [deliver_frame delivered]
    rfl
  · rw [takenOver_frame (State.deliveryFailed _ e) c savedEip]
    rfl

/-- LOCK or not, the exception is #UD. -/
theorem exec_ud2 (p : List Pfx) (s : State) : exec (.ud2 p) s = takeException .ud s := by
  have frame : exec (.ud2 p) s = plainFrame p (fun _ => .exn .ud) s := rfl
  rw [frame]
  cases lock : locked p with
  | true => exact plainFrame_locked lock _ s
  | false => exact plainFrame_raises lock rfl

/-- Settles O33: UD2 is the exception alone, whose raise side every delivery leaves recorded. -/
theorem ud2RaisesInvalidOpcode : Obligations.Ud2RaisesInvalidOpcode := by
  intro p s
  rw [exec_ud2]
  refine ⟨rfl, fun t => raise_lastExn, fun prot => ?_⟩
  have ⟨t, delivered⟩ := raise_prot prot (.exn .ud) s.eip
  exact ⟨t, delivered, raise_lastExn delivered⟩

end Sys2Proof.Machine
end

section
namespace Sys2Proof.Machine

/-! # Exceptions, interrupts, SMM entry and reset (60_exceptions, 70_reset) -/

/-! ## The state after reset (70_reset R602, R606) -/

/-- Settles O58, value by value: `State.reset` is the default table, which names every one. -/
theorem resetValues : Obligations.ResetValues := by
  refine ⟨rfl, rfl, rfl, rfl, by decide, rfl, by decide, by decide, ⟨rfl, rfl, rfl⟩, ⟨rfl, rfl, rfl, rfl⟩,
    ⟨rfl, rfl, rfl, rfl⟩, rfl, by decide, ⟨rfl, rfl, rfl, by decide⟩, ⟨rfl, rfl, rfl, rfl⟩, ⟨rfl, rfl, rfl, rfl, rfl⟩,
    ⟨rfl, rfl, rfl, rfl, rfl⟩, rfl, rfl, fun _ => ⟨rfl, rfl⟩⟩

/-! ## What an input does (60 R513) -/

section
variable {s : State} {i : Input} {rest : List (Option Input)}

/-- Every input but RESET# is taken in, and the boundary follows in the same step. -/
theorem step_absorb (input : s.inputs = some i :: rest) (other : i ≠ .reset) :
    step s = boundary (State.absorb { s with inputs := rest } i) := by
  cases i with
  | reset => contradiction
  | _ => simp only [step, input]

/-- RESET# leaves the reset state, whatever state it finds (70_reset R601). -/
theorem step_reset (input : s.inputs = some .reset :: rest) :
    ∃ w, step s = .next w ∧ w.shutdown = false ∧ w.halted = false ∧ w.inSmm = false ∧
      w.smbase = 0x30000 ∧ w.gpr = s.cfg.resetState.gpr ∧ w.eip = s.cfg.resetState.eip ∧
      w.segs = s.cfg.resetState.segs ∧ w.cr0 = s.cfg.resetState.cr0 ∧ w.tlb = [] ∧ w.mem = s.mem ∧
      w.smram = s.smram ∧ w.cfg = s.cfg ∧ w.inputs = rest := by
  refine ⟨State.resetBy { s with inputs := rest }, ?_, rfl, rfl, rfl, rfl, rfl, rfl, rfl, rfl, rfl, rfl, rfl, rfl, rfl⟩
  simp only [step, input]

end

/-! One equation for each input that has an effect of its own. -/

section
variable {s : State} {io : Option Dword}

theorem absorb_smi_inside (up : s.shutdown = false) (inside : s.inSmm = true) :
    s.absorb (.smi io) = { s with smiLatched := true } := by
  rw [State.absorb, if_neg (ne_true_of_eq_false up), if_pos inside]

theorem absorb_smi_outside (up : s.shutdown = false) (outside : s.inSmm = false) :
    s.absorb (.smi io) = { s with smiLatched := true, ioRestartEip := io } := by
  rw [State.absorb, if_neg (ne_true_of_eq_false up), if_neg (ne_true_of_eq_false outside)]

/-- Shutdown ignores SMI# (60 R570). -/
theorem absorb_smi_shutdown (down : s.shutdown = true) : s.absorb (.smi io) = s := if_pos down

/-- NMI# ends shutdown; elsewhere it is only latched (60 R513). -/
theorem absorb_nmi (up : s.shutdown = false) : s.absorb .nmi = { s with nmiLatched := true } := by
  rw [State.absorb, ← up]

/-- In SMM a halted processor that is not in shutdown is in the halt state of 60 R568. -/
theorem smmHalt_iff (up : s.shutdown = false) : s.smmHalt = true ↔ s.inSmm = true ∧ s.halted = true := by
  simp [State.smmHalt, up]

/-- Where the halt state of SMM does not ignore it, INIT# resets (60 R568, 70_reset R605). -/
theorem absorb_init (awake : ¬ s.smmHalt = true) : s.absorb .init = s.initBy := if_neg awake

theorem absorb_init_smmHalt (halt : s.smmHalt = true) : s.absorb .init = s := if_pos halt

end

/-! ## The events of a boundary in their order (60 R512, R565) -/

section
variable {s : State}

theorem boundary_of_event {o : Outcome} (event : pendingEvent s = some o) : boundary s = ticked s o := by
  simp only [boundary, event]

theorem boundary_of_no_event (noEvent : pendingEvent s = none) : boundary s = ticked s (fetchRun s) := by
  simp only [boundary, noEvent]

/-- In shutdown nothing is taken (60 R570). -/
theorem pendingEvent_shutdown (down : s.shutdown = true) : pendingEvent s = some (.next s) := by
  simp [pendingEvent, down]

variable (up : s.shutdown = false)
include up

theorem smiDue_iff : (s.smiLatched && !s.inSmm && !s.shutdown) = true ↔ s.smiLatched = true ∧ s.inSmm = false := by
  simp [up]

theorem trapDue_iff : (s.stepTrap && !s.smmHalt) = true ↔ s.stepTrap = true ∧ ¬ (s.inSmm = true ∧ s.halted = true) := by
  rw [Bool.and_eq_true, Bool.not_eq_true', ← Bool.not_eq_true, smmHalt_iff up]

theorem nmiDue_iff : (s.nmiLatched && !s.nmiBlocked && !s.smmHalt) = true ↔
    s.nmiLatched = true ∧ s.nmiBlocked = false ∧ ¬ (s.inSmm = true ∧ s.halted = true) := by
  rw [Bool.and_eq_true, Bool.and_eq_true, Bool.not_eq_true', Bool.not_eq_true', and_assoc, ← Bool.not_eq_true s.smmHalt,
    smmHalt_iff up]

theorem pendingEvent_smi (smi : s.smiLatched = true ∧ s.inSmm = false) :
    pendingEvent s = some ((smiEntry s).finish s) := if_pos ((smiDue_iff up).2 smi)

variable (noSmi : ¬ (s.smiLatched = true ∧ s.inSmm = false))
include noSmi

theorem pendingEvent_singleStep (trap : s.stepTrap = true ∧ ¬ (s.inSmm = true ∧ s.halted = true)) :
    pendingEvent s = some (raise .singleStep s.eip s) := by
  rw [pendingEvent, if_neg (mt (smiDue_iff up).1 noSmi), if_neg (ne_true_of_eq_false up),
    if_pos ((trapDue_iff up).2 trap)]

variable (noTrap : ¬ (s.stepTrap = true ∧ ¬ (s.inSmm = true ∧ s.halted = true)))
include noTrap

theorem pendingEvent_nmi (nmi : s.nmiLatched = true ∧ s.nmiBlocked = false ∧ ¬ (s.inSmm = true ∧ s.halted = true)) :
    pendingEvent s = some (raise .nmi s.eip { s with nmiLatched := false }) := by
  rw [pendingEvent, if_neg (mt (smiDue_iff up).1 noSmi), if_neg (ne_true_of_eq_false up),
    if_neg (mt (trapDue_iff up).1 noTrap), if_pos ((nmiDue_iff up).2 nmi)]

variable (noNmi : ¬ (s.nmiLatched = true ∧ s.nmiBlocked = false ∧ ¬ (s.inSmm = true ∧ s.halted = true)))
include noNmi

/-- Past SMI, shutdown, the single step and NMI, a request that is not held back is taken, else the halt state goes on
(60 R512, R516). -/
theorem pendingEvent_past_nmi : pendingEvent s =
    if s.intrLine.isSome && !s.holdsIntr then
      if s.defers then some (raise .deferred s.eip s)
      else some (raise (.intr (s.intrLine.getD 0)) s.eip { s with intrLine := none })
    else if s.halted then some (.next s)
    else none := by
  rw [pendingEvent, if_neg (mt (smiDue_iff up).1 noSmi), if_neg (ne_true_of_eq_false up),
    if_neg (mt (trapDue_iff up).1 noTrap), if_neg (mt (nmiDue_iff up).1 noNmi)]

theorem pendingEvent_intr {v : Byte} (request : s.intrLine = some v) (passes : ¬ s.holdsIntr = true)
    (direct : ¬ s.defers = true) : pendingEvent s = some (raise (.intr v) s.eip { s with intrLine := none }) := by
  rw [pendingEvent_past_nmi up noSmi noTrap noNmi, request, if_pos (by simp [passes]), if_neg direct]
  rfl

theorem pendingEvent_deferred {v : Byte} (request : s.intrLine = some v) (passes : ¬ s.holdsIntr = true)
    (deferred : s.defers = true) : pendingEvent s = some (raise .deferred s.eip s) := by
  rw [pendingEvent_past_nmi up noSmi noTrap noNmi, request, if_pos (by simp [passes]), if_pos deferred]

/-- Without a request that passes, a halted processor stays halted, and another goes on with its program (60 R516). -/
theorem pendingEvent_quiet (quiet : s.intrLine = none ∨ s.holdsIntr = true) :
    pendingEvent s = if s.halted then some (.next s) else none := by
  rw [pendingEvent_past_nmi up noSmi noTrap noNmi, if_neg]
  obtain noRequest | held := quiet
  · simp [noRequest]
  · simp [held]

end

/-! ## Virtual interrupts (60 R526, R530, R536) -/

section
variable (s : State)

theorem method6_iff : s.method6 = true ↔ s.mode = .v86 ∧ s.vme = true ∧ s.iopl ≠ 3 := by
  simp [State.method6, and_assoc]

theorem virtualIf_iff : s.virtualIf = true ↔
    s.iopl ≠ 3 ∧ (s.mode = .v86 ∧ s.vme = true ∨ s.mode = .prot ∧ s.pvi = true ∧ s.cplNow = 3) := by
  rw [State.virtualIf, Bool.or_eq_true, method6_iff]
  simp only [Bool.and_eq_true, beq_iff_eq, bne_iff_ne]
  tauto

theorem defers_iff : s.defers = true ↔ s.iopl ≠ 3 ∧ s.flag bitVIF = s.cfg.vifSetMeansMasked ∧
    (s.mode = .v86 ∧ s.vme = true ∨ s.mode = .prot ∧ s.pvi = true ∧ s.cplNow = 3) := by
  rw [State.defers, Bool.and_eq_true, virtualIf_iff, State.vifMasks, beq_iff_eq, and_assoc, and_comm (b := _ = _)]

theorem holdsIntr_iff : s.holdsIntr = true ↔ s.flag bitIF = false ∨ s.defers = true ∧ s.flag bitVIP = true := by
  simp [State.holdsIntr]

theorem ioDenied_iff : s.ioDenied = true ↔ s.cplNow.toNat > s.iopl.toNat := decide_eq_true_iff

end

/-! ## HLT, and PUSHF, POPF and IRET, without LOCK (60 R516, R534) -/

theorem execBase_hlt (len : Nat) (s : State) : execBase [] .hlt len s = execHlt len s := rfl

theorem execBase_flagsOp (op : Byte) (len : Nat) (s : State) : execBase [] (.flagsOp op) len s = execFlagsOp op s := rfl

/-- Settles O41: each input is one case of `absorb`, each event one case of `pendingEvent` in its order. -/
theorem eventOrder : Obligations.EventOrder := by
  intro s halt smi trap nmi deferred held
  have held_iff : s.holdsIntr = true ↔ held := by
    rw [holdsIntr_iff, defers_iff]
  have taken {o : Outcome} (event : pendingEvent s = some o) : boundary s = ticked s o := boundary_of_event event
  refine ⟨fun noInput => by simp only [step, noInput], fun rest input => by simp only [step, input],
    fun rest input => step_reset input, fun i rest input up => ?inputs,
    fun h up => taken (pendingEvent_smi up h), fun down => taken (pendingEvent_shutdown down),
    fun up noSmi => ⟨fun h => taken (pendingEvent_singleStep up noSmi h), fun noTrap =>
      ⟨fun h => taken (pendingEvent_nmi up noSmi noTrap h), fun noNmi v request => ⟨fun passes direct => ?direct,
        fun passes deferred => ?deferred⟩, fun noNmi quiet => ?quiet⟩⟩,
    rfl, fun _ => ⟨rfl, rfl⟩, fun len => ⟨fun cpl0 => ?hlt, fun above => ?denied⟩⟩
  case inputs =>
    intro q
    have run := step_absorb input
    refine ⟨?smi, ?nmi, ?intr, ?intrOff, ?noEffect, ?init⟩
    case smi =>
      rintro io rfl
      refine ⟨fun inside => ?_, fun outside => (run nofun).trans (congrArg boundary (absorb_smi_outside up outside))⟩
      have latched := (run nofun).trans (congrArg boundary (absorb_smi_inside up inside))
      refine ⟨latched, fun already => latched.trans (congrArg boundary ?_)⟩
      rw [← already]
    case nmi =>
      rintro rfl
      exact (run nofun).trans (congrArg boundary (absorb_nmi up))
    case intr =>
      rintro v rfl
      exact run nofun
    case intrOff =>
      rintro rfl
      exact run nofun
    case noEffect =>
      rintro (rfl | rfl) <;> exact run nofun
    case init =>
      rintro rfl
      have halt_iff : q.smmHalt = true ↔ halt := smmHalt_iff up
      exact ⟨fun h => (run nofun).trans (congrArg boundary (absorb_init_smmHalt (halt_iff.2 h))), fun h =>
        ⟨_, (run nofun).trans (congrArg boundary (absorb_init (mt halt_iff.1 h))), rfl, rfl, rfl, rfl, rfl, rfl, rfl,
          rfl, rfl, rfl, rfl, rfl, rfl, rfl, rfl, rfl, rfl⟩⟩
  case direct =>
    exact taken (pendingEvent_intr up noSmi noTrap noNmi request (mt held_iff.1 passes) (mt (defers_iff s).1 direct))
  case deferred =>
    exact taken (pendingEvent_deferred up noSmi noTrap noNmi request (mt held_iff.1 passes) ((defers_iff s).2 deferred))
  case quiet =>
    have event := pendingEvent_quiet up noSmi noTrap noNmi (quiet.imp_right held_iff.2)
    exact ⟨fun halted => taken (event.trans (if_pos halted)),
      fun awake => boundary_of_no_event (event.trans (if_neg (ne_true_of_eq_false awake)))⟩
  case hlt =>
    rw [execBase_hlt, execHlt, if_neg (by simp [cpl0])]
    rfl
  case denied => rw [execBase_hlt, execHlt, if_pos (bne_iff_ne.2 above)]

/-! ## Shutdown (60 R570) -/

theorem boundary_of_shutdown {s : State} (down : s.shutdown = true) : boundary s = .next (tick s s) :=
  boundary_of_event (pendingEvent_shutdown down)

/-- Settles O59: in shutdown a boundary lets time pass, and only RESET#, INIT# and NMI# leave a state outside it. -/
theorem shutdownIsStuck : Obligations.ShutdownIsStuck := by
  intro s down
  refine ⟨fun noInput => ⟨_, step_of_shutdown noInput down, rfl⟩, fun i rest input => ?_⟩
  intro q
  have run := step_absorb input
  have stuck {t : State} (other : i ≠ .reset) (absorbed : q.absorb i = t) (still : t.shutdown = true) :
      step s = .next (tick t t) := ((run other).trans (congrArg boundary absorbed)).trans (boundary_of_shutdown still)
  refine ⟨fun noRequest noReset noInit noNmi => ?others, ?intr, fun h => step_reset (h ▸ input), ?init, ?nmi⟩
  case others =>
    cases i with
    | reset => contradiction
    | init => contradiction
    | nmi => contradiction
    | intr v => exact absurd rfl (noRequest v)
    | smi io => exact ⟨_, stuck nofun (absorb_smi_shutdown down) down, rfl, fun _ => rfl⟩
    | intrOff => exact ⟨_, stuck nofun rfl down, rfl, fun h => absurd rfl h⟩
    | flush => exact ⟨_, stuck nofun rfl down, rfl, fun _ => rfl⟩
    | a20m => exact ⟨_, stuck nofun rfl down, rfl, fun _ => rfl⟩
  case intr =>
    rintro v rfl
    exact ⟨_, stuck nofun rfl down, rfl⟩
  case init =>
    rintro rfl
    have awake : ¬ q.smmHalt = true := by simp [State.smmHalt, show q.shutdown = true from down]
    rw [absorb_init awake]
    exact ⟨(run nofun).trans (congrArg boundary (absorb_init awake)), rfl, rfl, rfl, rfl, rfl⟩
  case nmi =>
    rintro rfl
    exact run nofun

/-! ## CLI and STI (60 R531, R533, R536, R537) -/

/-- An instruction that completes with one flag written leaves every other flag and field, but for EIP. -/
theorem completes_setFlag {o : Outcome} {s : State} {k : Nat} {b : Bool} {len : Nat} (inside : k < 32)
    (run : o = .next ((s.setFlag k b).advance len)) :
    ∃ u, o = .next u ∧ u.flag k = b ∧ (∀ j, j ≠ k → u.flag j = s.flag j) ∧
      u = { s with eflags := u.eflags, eip := s.eip + BitVec.ofNat 32 len } :=
  ⟨_, run, (flag_setFlag s k b inside k).trans (if_pos rfl),
    fun j other => (flag_setFlag s k b inside j).trans (if_neg other), rfl⟩

section
variable {s : State} (len : Nat)

theorem execCli_virtual (h : s.virtualIf = true) :
    execCli len s = .next ((s.setFlag bitVIF s.cfg.vifSetMeansMasked).advance len) := if_pos h

theorem execSti_virtual (h : s.virtualIf = true) (clear : s.flag bitVIP = false) :
    execSti len s = .next ((s.setFlag bitVIF (!s.cfg.vifSetMeansMasked)).advance len) := by
  rw [execSti, if_pos h, if_neg (ne_true_of_eq_false clear)]

theorem execSti_pending (h : s.virtualIf = true) (set : s.flag bitVIP = true) :
    execSti len s = raise .stiPending s.eip s := by
  rw [execSti, if_pos h, if_pos set]

variable (plain : ¬ s.virtualIf = true)
include plain

theorem execCli_denied (denied : s.ioDenied = true) : execCli len s = takeException .gp s := by
  rw [execCli, if_neg plain, if_pos denied]

theorem execSti_denied (denied : s.ioDenied = true) : execSti len s = takeException .gp s := by
  rw [execSti, if_neg plain, if_pos denied]

theorem execCli_allowed (allowed : ¬ s.ioDenied = true) :
    execCli len s = .next ((s.setFlag bitIF false).advance len) := by
  rw [execCli, if_neg plain, if_neg allowed]

theorem execSti_allowed (allowed : ¬ s.ioDenied = true) :
    execSti len s = .next ((s.setFlag bitIF true).advance len) := by
  rw [execSti, if_neg plain, if_neg allowed]

end

/-- Settles O42: where virtual interrupts apply VIF is written, else IF or nothing, by the branches of CLI and STI. -/
theorem virtualInterrupts : Obligations.VirtualInterrupts := by
  refine ⟨rfl, rfl, fun len s => ⟨fun h => ?virtual, fun h above => ?denied, fun h within => ?allowed,
    fun v86 iopl op hop => ⟨?decoded, ?raises⟩⟩⟩
  case virtual =>
    have h := (virtualIf_iff s).2 h
    exact ⟨completes_setFlag (by decide) (execCli_virtual len h),
      fun clear => completes_setFlag (by decide) (execSti_virtual len h clear), execSti_pending len h⟩
  case denied =>
    have plain := mt (virtualIf_iff s).1 h
    have denied := (ioDenied_iff s).2 above
    exact ⟨execCli_denied len plain denied, execSti_denied len plain denied⟩
  case allowed =>
    have plain := mt (virtualIf_iff s).1 h
    have allowed := mt (ioDenied_iff s).1 (Nat.not_lt.2 within)
    exact ⟨completes_setFlag (by decide) (execCli_allowed len plain allowed),
      completes_setFlag (by decide) (execSti_allowed len plain allowed)⟩
  case decoded =>
    revert op
    decide
  case raises => rw [execBase_flagsOp, execFlagsOp, if_pos ⟨v86, iopl⟩]

end Sys2Proof.Machine
end

section
namespace Sys2Proof.Machine

/-! ## SMM entry (60 R560, R561, R563) -/

theorem extractLsb'_eq_setWidth (v : Dword) : v.extractLsb' 0 16 = v.setWidth 16 :=
  (BitVec.setWidth_eq_extractLsb' (by decide)).symm

theorem slot16_starSlot {r : List Byte} (fr : BitVec 4096) (k : Nat) (v : Word16) :
    slot16 (starSlot fr k v ++ r) 0 = v := by
  rw [starSlot, List.append_assoc, slot16_leBytes]

/-- The bytes hold what SMM entry saves of `s` in the slots that RSM does not read (60 R560). -/
structure AreaRecords (s : State) (bs : List Byte) : Prop where
  revision : slot32 bs 0xFC = s.cfg.smmRevision
  gdtr : slot32 bs 0x188 = s.gdtr.base
  idtr : slot32 bs 0x194 = s.idtr.base
  es : slot16 bs 0x1A8 = s.segs.es.sel
  cs : slot16 bs 0x1AC = s.segs.cs.sel
  ss : slot16 bs 0x1B0 = s.segs.ss.sel
  ds : slot16 bs 0x1B4 = s.segs.ds.sel
  fs : slot16 bs 0x1B8 = s.segs.fs.sel
  gs : slot16 bs 0x1BC = s.segs.gs.sel
  ldtr : slot16 bs 0x1C0 = s.ldtr.base.extractLsb' 0 16
  tr : slot16 bs 0x1C4 = s.tr.sel

theorem areaBytes_records (s : State) (fr : BitVec 4096) : AreaRecords s (areaBytes s fr) := by
  constructor
  all_goals
    unfold areaBytes
    simp only [List.append_assoc, slot32_append_of_le, slot16_append_of_le, slot32_leBytes, slot16_starSlot,
      leBytes_length, reservedBytes_length, starSlot_length, List.length_cons, List.length_nil, Nat.reduceAdd,
      Nat.reduceLeDiff, Nat.le_refl, Nat.reduceSub]

/-- PE, EM, TS and PG are cleared, no other bit (60 R563). -/
theorem getLsbD_smmCr0 (v : Dword) (k : Nat) :
    (smmCr0 v).getLsbD k = (v.getLsbD k && !(k == 0 || k == 2 || k == 3 || k == 31)) := by
  rw [smmCr0, getLsbD_setBit _ _ _ _ (by decide), getLsbD_setBit _ _ _ _ (by decide),
    getLsbD_setBit _ _ _ _ (by decide), getLsbD_setBit _ _ _ _ (by decide)]
  by_cases cleared : k = 0 ∨ k = 2 ∨ k = 3 ∨ k = 31
  · obtain rfl | rfl | rfl | rfl := cleared <;> simp
  · simp only [not_or] at cleared
    simp [cleared]

/-- The save area as memory holds it after SMM entry. -/
theorem readBytes_smmStart {s : State} (ram : allRam { s with inSmm := true } (areaAddrs s.smbase))
    (wf : Memory.wf s.mem) (wf' : Memory.wf s.smram) :
    readBytes (s.smmStart (s.free 4096) s.areaStored.mem s.areaStored.smram (s.draws + 1)).physMem
      (areaAddrs s.smbase) = areaBytes s (s.free 4096) := by
  obtain ⟨-, bytes, -⟩ := readPhys_ok (smmStart_reads ram wf wf')
  exact bytes.symm

end Sys2Proof.Machine

namespace Sys2Proof.Laws

open Sys2Proof.Machine

/-- Settles O37: entry goes to `smmStart`, whose registers are those of R563 and whose area holds `areaBytes`. -/
theorem smiEntry : Obligations.SmiEntry := by
  intro s outside wf wf' ram
  refine ⟨_, smiEntry_runs ram, rfl, rfl, extractLsb'_eq_setWidth _, rfl, rfl, ?data, getLsbD_smmCr0 s.cr0, rfl, rfl,
    fun a => readByte_areaStored wf wf', ?area, rfl⟩
  case data =>
    intro g hg
    simp only [List.mem_cons, List.not_mem_nil, or_false] at hg
    obtain rfl | rfl | rfl | rfl | rfl := hg <;> exact ⟨rfl, rfl, rfl⟩
  case area =>
    rw [readBytes_smmStart ram wf wf']
    have held := areaBytes_holds s (s.free 4096)
    have noted := areaBytes_records s (s.free 4096)
    exact ⟨slot32_areaBytes_gpr s _, ⟨held.eip, held.eflags, held.cr3, held.cr0⟩, ⟨held.dr7, held.dr6⟩,
      ⟨noted.es, noted.cs, noted.ss⟩, ⟨noted.ds, noted.fs, noted.gs⟩,
      ⟨noted.ldtr.trans (extractLsb'_eq_setWidth _), noted.tr⟩, ⟨noted.gdtr, noted.idtr⟩,
      ⟨held.smbase, noted.revision⟩, held.ioRestart, held.halted⟩

end Sys2Proof.Laws
end

section
namespace Sys2Proof.Machine

/-! ## Taking an exception: what is recorded and what stays (60 R500, R501, R510) -/

/-- Whatever becomes of the delivery, what no gate, stack switch or task switch writes is as the raise side left it. -/
theorem raise_frame {c : Cause} {savedEip : Dword} {s t : State} (h : raise c savedEip s = .next t) :
    takenOverFrame (s.raised c savedEip) t := by
  obtain delivered | ⟨e, -, rfl⟩ := raise_next h
  · exact (deliver_frame delivered).takenOver
  · exact takenOverFrame.trans (t := (s.raised c savedEip).deliveryFailed e) rfl (takenOver_frame _ c savedEip)

/-- CR2 after an exception (20_memory R117, 60 R510). -/
theorem cr2_of_not_pf {e : Exn} (other : ∀ code la, e ≠ .pf code la) (old : Dword) : e.cr2 old = old := by
  cases e with
  | pf code la => exact absurd rfl (other code la)
  | _ => rfl

/-! ### The base machine after a failed delivery (log 11) -/

/-- What the accesses of the base machine change: memory, remembered walks, free values, the exception they record. -/
def accessFrame (s t : State) : Prop :=
  t = { s with
    mem := t.mem, smram := t.smram, tlb := t.tlb, draws := t.draws, cr2 := t.cr2, deliveryExn := t.deliveryExn }

theorem accessFrame.trans {s t u : State} (h : accessFrame s t) (k : accessFrame t u) : accessFrame s u := by
  unfold accessFrame at *
  rw [h] at k
  simpa using k

theorem PagingOnly.accessFrame {s t : State} (h : PagingOnly s t) : accessFrame s t := by
  unfold Machine.accessFrame
  rw [h.fields]

theorem accessFrame.mode {s t : State} (h : accessFrame s t) : t.mode = s.mode := by
  rw [h]
  rfl

theorem accessFrame.flag {s t : State} (h : accessFrame s t) (k : Nat) : t.flag k = s.flag k := by
  rw [h]
  rfl

theorem touchAll_access (s : State) (l : List (Dword × Bool)) : accessFrame s (s.touchAll l) := by
  induction l generalizing s with
  | nil => rfl
  | cons x l ih =>
    unfold State.touchAll
    split
    · exact (translate_ok ‹_›).accessFrame.trans (ih _)
    · exact accessFrame.trans (t := s.deliveryFailed _) rfl (ih _)
    · exact ih s

/-- A recorded exception stays recorded, or a later one takes its place. -/
theorem touchAll_records (s : State) (l : List (Dword × Bool)) (h : s.deliveryExn ≠ none) :
    (s.touchAll l).deliveryExn ≠ none := by
  induction l generalizing s with
  | nil => exact h
  | cons x l ih =>
    unfold State.touchAll
    split
    · rename_i translated
      exact ih _ (by rwa [(translate_ok translated).fields])
    · exact ih _ nofun
    · exact ih s h

theorem written_cr2 (s : State) (e : Entry) : (s.written e).cr2 = s.cr2 := by
  rw [written_frame s e]

/-- The task bit is the only bit of CR0 a delivery writes, so paging stays on or off. -/
theorem written_pg (s : State) (e : Entry) : (s.written e).pg = s.pg := by
  have stored := setPhysMem_fields s (writeBytes s.physMem (entryCells s e.writes))
  unfold State.written
  dsimp only
  split
  · have task (v : Dword) : (setBit v 3 true).getLsbD 31 = v.getLsbD 31 := getLsbD_setBit _ _ _ _ (by decide)
    rw [State.pg, State.taskSwitch, State.flushTlb, task, stored]
    rfl
  · rw [stored]
    rfl

theorem takenOver_records (s : State) (c : Cause) (savedEip : Dword) (h : s.deliveryExn ≠ none) :
    (s.takenOver c savedEip).deliveryExn ≠ none := by
  unfold State.takenOver
  split
  · exact h
  · exact touchAll_records _ _ ((written_deliveryExn ..).symm ▸ touchAll_records s _ h)

/-- CR2 holds the address of the page fault recorded last (20_memory R117). -/
theorem takenOver_cr2 (s : State) (c : Cause) (savedEip : Dword)
    (h : ∀ code la, s.deliveryExn = some (.pf code la) → s.cr2 = la) :
    ∀ code la, (s.takenOver c savedEip).deliveryExn = some (.pf code la) → (s.takenOver c savedEip).cr2 = la := by
  unfold State.takenOver
  split
  · exact h
  · refine touchAll_cr2 _ _ ?_
    rw [written_deliveryExn, written_cr2]
    exact touchAll_cr2 s _ h

/-- In real-address mode no task is switched: the bytes of the delivery are all it writes before its handler (log 6). -/
theorem switches_of_real {s : State} (real : s.mode = .real) (e : Entry) : s.switches e = false := by
  simp [State.switches, real]

theorem written_of_real {s : State} (real : s.mode = .real) (e : Entry) : accessFrame s (s.written e) := by
  have stored : accessFrame s (s.setPhysMem (writeBytes s.physMem (entryCells s e.writes))) := by
    unfold accessFrame
    rw [setPhysMem_fields]
  unfold State.written
  dsimp only
  rw [switches_of_real (stored.mode.trans real) e]
  exact stored

/-- A base machine that takes over in real-address mode leaves VIF and VIP (10_state R24). -/
theorem takenOver_virtual {s : State} (real : s.mode = .real) (c : Cause) (savedEip : Dword) {k : Nat}
    (hk : k = bitVIF ∨ k = bitVIP) : (s.takenOver c savedEip).flag k = s.flag k := by
  unfold State.takenOver
  split
  · rfl
  · rename_i e _
    have before := touchAll_access s e.before
    have accessed := (before.trans (written_of_real (before.mode.trans real) e)).trans (touchAll_access _ e.after)
    exact (entryFlags_virtual _ e (switches_of_real (accessed.mode.trans real) e) k hk).trans (accessed.flag k)

/-! ### A delivery that goes on -/

theorem push16_eflags {s t : State} {v : Word16} {u : Unit} (h : s.push16 v = .ok u t) : t.eflags = s.eflags := by
  obtain ⟨as, s₁, -, k, rfl⟩ := push16_ok h
  rw [State.setR16_eflags, setPhysMem_fields]
  exact k.eflags

/-- A delivery in the manner of real-address mode clears IF and TF and no other flag (60 R528). -/
theorem realDelivery_eflags {s t : State} {vector : Byte} {savedEip : Dword} {clear : Bool} {u : Unit}
    (h : s.realDelivery vector savedEip clear = .ok u t) :
    t.eflags = setBit (setBit s.eflags bitIF false) bitTF false := by
  obtain ⟨s₁, s₂, s₃, s₄, bs, h₁, h₂, h₃, h₄, rfl⟩ := realDelivery_ok h
  have same : s₄.eflags = s.eflags :=
    (((systemRead_ok h₄).1.eflags.trans (push16_eflags h₃)).trans (push16_eflags h₂)).trans (push16_eflags h₁)
  exact congrArg (fun v => setBit (setBit v bitIF false) bitTF false) same

theorem getLsbD_handlerFlags (v : Dword) (k : Nat) : (setBit (setBit v bitIF false) bitTF false).getLsbD k =
    if k = bitTF then false else if k = bitIF then false else v.getLsbD k := by
  rw [getLsbD_setBit _ _ _ _ (by decide), getLsbD_setBit _ _ _ _ (by decide)]

theorem deliver_real {s : State} (real : s.mode = .real) (c : Cause) (savedEip : Dword) :
    s.deliver c savedEip = s.realDelivery c.vector savedEip false := by
  unfold State.deliver
  rw [real]

theorem deliver_prot {s : State} (prot : s.mode = .prot) (c : Cause) (savedEip : Dword) :
    s.deliver c savedEip = s.freeDelivery c savedEip := by
  unfold State.deliver
  rw [prot]

/-- With paging off no access of a free delivery fails (20_memory R103). -/
theorem freeDelivery_flat {s : State} (flat : s.pg = false) (c : Cause) (savedEip : Dword) (e : Exn) :
    s.freeDelivery c savedEip ≠ .exn e := by
  unfold State.freeDelivery
  split
  · exact nofun
  · rename_i entry _
    rw [touch_flat s _ flat, Res.ok_bind, touch_flat _ _ ((written_pg s entry).trans flat), Res.ok_bind]
    exact nofun

/-- In real-address mode VIF and VIP stay, delivered or taken over (10_state R24). -/
theorem raise_virtual {c : Cause} {savedEip : Dword} {s t : State} (h : raise c savedEip s = .next t)
    (real : s.mode = .real) {k : Nat} (hk : k = bitVIF ∨ k = bitVIP) : t.flag k = s.flag k := by
  obtain delivered | ⟨e, -, rfl⟩ := raise_next h
  · rw [deliver_real (s := s.raised c savedEip) real] at delivered
    rw [State.flag, realDelivery_eflags delivered, getLsbD_handlerFlags]
    obtain rfl | rfl := hk <;> rfl
  · exact takenOver_virtual (s := (s.raised c savedEip).deliveryFailed e) real c savedEip hk

/-- What a delivery that raised in turn leaves recorded, and what one that went on does (log 11). -/
theorem raise_deliveryExn {c : Cause} {savedEip : Dword} {s t : State} (h : raise c savedEip s = .next t) :
    (∃ x, (s.raised c savedEip).deliver c savedEip = .exn x) ↔ t.deliveryExn ≠ none := by
  obtain delivered | ⟨e, failed, rfl⟩ := raise_next h
  · have noExn : t.deliveryExn = none := congrArg State.deliveryExn (deliver_frame delivered)
    rw [delivered, noExn]
    simp
  · exact iff_of_true ⟨e, failed⟩ (takenOver_records ((s.raised c savedEip).deliveryFailed e) c savedEip nofun)

/-- A page fault of a delivery leaves its address in CR2 (20_memory R117). -/
theorem raise_delivery_cr2 {c : Cause} {savedEip : Dword} {s t : State} (h : raise c savedEip s = .next t)
    {code la : Dword} (fault : t.deliveryExn = some (.pf code la)) : t.cr2 = la := by
  obtain delivered | ⟨e, -, rfl⟩ := raise_next h
  · have noExn : t.deliveryExn = none := congrArg State.deliveryExn (deliver_frame delivered)
    rw [noExn] at fault
    contradiction
  · refine takenOver_cr2 ((s.raised c savedEip).deliveryFailed e) c savedEip (fun code la failed => ?_) code la fault
    obtain rfl := Option.some.inj failed
    rfl

/-- Without an exception of the delivery CR2 is what was raised says (60 R510). -/
theorem raise_cr2 {c : Cause} {savedEip : Dword} {s t : State} (h : raise c savedEip s = .next t)
    (delivered : t.deliveryExn = none) : t.cr2 = c.cr2 s.cr2 := by
  obtain ok | ⟨e, failed, -⟩ := raise_next h
  · exact congrArg State.cr2 (deliver_frame ok)
  · exact absurd delivered ((raise_deliveryExn h).1 ⟨e, failed⟩)

/-- Settles O39: the raise side is `raised`, and what comes after it writes only what a delivery writes. -/
theorem exceptionRaiseSide : Obligations.ExceptionRaiseSide := by
  refine ⟨rfl, fun _ _ => ⟨rfl, rfl⟩, fun c saved s x failed => ?software, fun e s t h => ?_⟩
  case software => simp only [raiseSoftware, failed]
  have frame := raise_frame h
  refine ⟨raise_lastExn h, fun delivered => ⟨?fault, fun other => ?noFault⟩, raise_deliveryExn h,
    fun _ _ fault => raise_delivery_cr2 h fault, fun prot flat => ?prot,
    fun real => ⟨raise_virtual h real (.inl rfl), raise_virtual h real (.inr rfl)⟩,
    ?stays⟩
  case fault =>
    rintro code la rfl
    exact raise_cr2 h delivered
  case noFault => exact (raise_cr2 h delivered).trans (cr2_of_not_pf other s.cr2)
  case prot =>
    by_contra failed
    obtain ⟨x, raised⟩ := (raise_deliveryExn h).2 failed
    rw [deliver_prot (s := s.raised (.exn e) s.eip) prot] at raised
    exact freeDelivery_flat (s := s.raised (.exn e) s.eip) flat _ _ x raised
  case stays =>
    rw [show t = _ from frame]
    exact ⟨rfl, rfl, rfl, rfl, rfl, rfl, rfl, rfl, rfl, rfl, rfl, rfl, rfl, rfl, rfl, rfl, rfl⟩

end Sys2Proof.Machine
end

section
namespace Sys2Proof.Machine

/-! ## The stack of a delivery in the manner of real-address mode (60 R528, R566) -/

theorem writeBytes_append (m : Memory) (cs ds : List (Nat × Byte)) :
    writeBytes m (cs ++ ds) = writeBytes (writeBytes m cs) ds := by
  induction cs generalizing m with
  | nil => rfl
  | cons c t ih => exact ih _

theorem setPhysMem_segs (s : State) (m : Memory) : (s.setPhysMem m).segs = s.segs := by rw [setPhysMem_fields]

theorem setPhysMem_eflags (s : State) (m : Memory) : (s.setPhysMem m).eflags = s.eflags := by rw [setPhysMem_fields]

theorem setPhysMem_r32 (s : State) (m : Memory) (q : RegNum) : (s.setPhysMem m).r32 q = s.r32 q := by
  rw [State.r32, setPhysMem_gpr, State.r32]

/-- `s` with this memory and this stack pointer. -/
def State.stacked (s : State) (m : Memory) (sp : Word16) : State := (s.setPhysMem m).setR16 rESP sp

section
variable (s : State) (m : Memory) (sp : Word16)

theorem stacked_fields : s.stacked m sp =
    { s with gpr := (s.stacked m sp).gpr, mem := (s.stacked m sp).mem, smram := (s.stacked m sp).smram } := by
  rw [State.stacked, setPhysMem_fields]
  rfl

@[simp] theorem stacked_physMem : (s.stacked m sp).physMem = m := setPhysMem_physMem s m

@[simp] theorem stacked_r16 : (s.stacked m sp).r16 rESP = sp := r16_setR16_self ..

@[simp] theorem stacked_pg : (s.stacked m sp).pg = s.pg := by
  rw [stacked_fields]
  rfl

@[simp] theorem stacked_segs : (s.stacked m sp).segs = s.segs := by rw [stacked_fields]

@[simp] theorem stacked_eflags : (s.stacked m sp).eflags = s.eflags := by rw [stacked_fields]

@[simp] theorem stacked_at16 (o : Word16) : (s.stacked m sp).at16 o = s.at16 o := by
  rw [stacked_fields]
  rfl

theorem stacked_segCheck (g : SegName) (ea : Dword) (n : Nat) (write : Bool) :
    (s.stacked m sp).segCheck g ea n write = s.segCheck g ea n write := by
  rw [stacked_fields]
  rfl

theorem stacked_kind (a : Nat) : (s.stacked m sp).kind a = s.kind a := by
  rw [stacked_fields]
  rfl

theorem stacked_stopAt (a : Nat) : (s.stacked m sp).stopAt a = s.stopAt a := by
  rw [State.stopAt, stacked_kind]
  rfl

theorem setR16_setR16 (d : RegNum) (v w : Word16) : (s.setR16 d v).setR16 d w = s.setR16 d w := by
  rw [State.setR16, upperHalf_setR16, State.setR16, State.setR16]
  simp [State.setR32]

/-- A later memory and stack pointer take the place of earlier ones. -/
theorem stacked_stacked (m' : Memory) (sp' : Word16) : (s.stacked m sp).stacked m' sp' = s.stacked m' sp' := by
  have space : (s.stacked m sp).inSmramSpace = s.inSmramSpace := by
    rw [stacked_fields]
    rfl
  have memory : (s.stacked m sp).setPhysMem m' = s.stacked m' sp := by
    rw [State.setPhysMem, space, State.stacked, State.stacked, State.setPhysMem, State.setPhysMem]
    split <;> rfl
  rw [State.stacked, memory, State.stacked, setR16_setR16, State.stacked]

end

section
variable {s : State} (flat : s.pg = false)
include flat

/-- With paging off a push within the limit stores its two bytes in plain memory. -/
theorem push16_flat (v : Word16) (limit : s.segCheck .ss ((s.r16 rESP - 2).setWidth 32) 2 true = none)
    (ram : allRam s (s.at16 (s.r16 rESP - 2))) :
    s.push16 v = .ok () (s.stacked (writeBytes s.physMem ((s.at16 (s.r16 rESP - 2)).zip (leBytes 2 v)))
      (s.r16 rESP - 2)) := by
  have addrs : s.segAddrs .ss ((s.r16 rESP - 2).setWidth 32) 2 ⟨false, true⟩ = .ok (s.at16 (s.r16 rESP - 2)) s := by
    rw [State.segAddrs, limit]
    exact linAddrs_flat _ _ _ _ flat
  have len : (s.at16 (s.r16 rESP - 2)).length = (leBytes 2 v).length := by simp [State.at16]
  unfold State.push16
  dsimp only
  rw [addrs, Res.ok_bind, writePhys_mapped len fun _ => stopAt_of_allRam ram, storedCells_of_allRam ram]
  rfl

theorem push16_stacked (m : Memory) (sp v : Word16) (limit : s.segCheck .ss ((sp - 2).setWidth 32) 2 true = none)
    (ram : allRam s (s.at16 (sp - 2))) :
    (s.stacked m sp).push16 v =
      .ok () (s.stacked (writeBytes m ((s.at16 (sp - 2)).zip (leBytes 2 v))) (sp - 2)) := by
  have pushed := push16_flat (s := s.stacked m sp) ((stacked_pg ..).trans flat) v
  rw [stacked_r16, stacked_segCheck, stacked_at16, stacked_physMem, stacked_stacked] at pushed
  exact pushed limit fun a h => (stacked_kind ..).trans (ram a h)

/-- With paging off the entry of a vector is four bytes from four times its number (20_memory R99). -/
theorem systemRead_tableEntry (v : Byte) (mapped : ∀ a ∈ tableEntry v, s.stopAt a = none) :
    s.systemRead (v.setWidth 32 <<< 2) 4 = .ok (readBytes s.physMem (tableEntry v)) s := by
  have addrs : ((List.range 4).map fun k => (linByte (v.setWidth 32 <<< 2) k).toNat) = tableEntry v := by
    refine List.map_congr_left fun k hk => ?_
    have := List.mem_range.1 hk
    have := v.isLt
    simp [linByte, Nat.shiftLeft_eq]
    omega
  rw [State.systemRead, linAddrs_flat _ _ _ _ flat, Res.ok_bind, addrs, readPhys_mapped mapped]

end

/-! ## The handler of a delivery in the manner of real-address mode -/

/-- The words of a delivery, from the highest address down: FLAGS, CS and IP. -/
def State.realWords (s : State) (flags ip : Word16) : List Byte :=
  leBytes 2 flags ++ leBytes 2 s.segs.cs.sel ++ leBytes 2 ip

/-- Memory with the three words pushed. -/
def State.realPushed (s : State) (flags ip : Word16) : Memory :=
  writeBytes s.physMem (s.realStack.zip (s.realWords flags ip))

/-- The handler's state: the words pushed, IF and TF clear, CS:EIP from the table. -/
def State.realEntered (s : State) (v : Byte) (flags ip : Word16) : State :=
  let entry := readBytes s.physMem (tableEntry v)
  { s.stacked (s.realPushed flags ip) (s.r16 rESP - 6) with
    eflags := setBit (setBit s.eflags bitIF false) bitTF false
    segs := { s.segs with cs := s.segs.cs.loadReal (leValue 16 (entry.drop 2)) }
    eip := (leValue 16 (entry.take 2) : Word16).setWidth 32 }

/-- The words one after another, from the highest address down. -/
theorem realPushed_eq (s : State) (flags ip : Word16) : s.realPushed flags ip =
    writeBytes (writeBytes (writeBytes s.physMem ((s.at16 (s.r16 rESP - 2)).zip (leBytes 2 flags)))
      ((s.at16 (s.r16 rESP - 4)).zip (leBytes 2 s.segs.cs.sel))) ((s.at16 (s.r16 rESP - 6)).zip (leBytes 2 ip)) := by
  rw [State.realPushed, State.realStack, State.realWords, List.zip_append (by simp [State.at16]),
    List.zip_append (by simp [State.at16]), writeBytes_append, writeBytes_append]

section
variable {s : State} {v : Byte} (ready : RealReady s v) (flags ip : Word16)
include ready

theorem readBytes_realPushed : readBytes (s.realPushed flags ip) s.realStack = s.realWords flags ip :=
  readBytes_writeBytes _ _ _ ready.mem ready.apart (by simp [State.realStack, State.at16, State.realWords])

theorem readByte_realPushed_of_notMem {a : Nat} (out : a ∉ s.realStack) :
    readByte (s.realPushed flags ip) a = readByte s.physMem a :=
  readByte_writeBytes_ne _ _ _ ready.mem fun _ hc e => out (e ▸ (List.of_mem_zip hc).1)

theorem readBytes_realPushed_tableEntry :
    readBytes (s.realPushed flags ip) (tableEntry v) = readBytes s.physMem (tableEntry v) :=
  List.map_congr_left fun a ha => readByte_realPushed_of_notMem ready flags ip (ready.entry a ha).1

/-- The three pushes and the read of the table entry all go through. -/
theorem realDelivery_runs (savedEip : Dword) (clear : Bool) :
    s.realDelivery v savedEip clear = .ok () (s.realEntered v
      (if clear then flagsWithoutNtIopl (s.eflags.extractLsb' 0 16) else s.eflags.extractLsb' 0 16)
      (savedEip.extractLsb' 0 16)) := by
  have sp4 : s.r16 rESP - 2 - 2 = s.r16 rESP - 4 := by bv_omega
  have sp6 : s.r16 rESP - 4 - 2 = s.r16 rESP - 6 := by bv_omega
  have within {o : Word16} (h : o ∈ [s.r16 rESP - 2, s.r16 rESP - 4, s.r16 rESP - 6]) := ready.limit o h
  have ram {o : Word16} (h : s.at16 o ⊆ s.realStack) : allRam s (s.at16 o) := fun a ha => ready.ram a (h ha)
  have first (w : Word16) := push16_flat ready.flat w (within (by simp)) (ram (by simp [State.realStack]))
  have second (m : Memory) (w : Word16) := push16_stacked (s := s) ready.flat m (s.r16 rESP - 2) w
  have third (m : Memory) (w : Word16) := push16_stacked (s := s) ready.flat m (s.r16 rESP - 4) w
  rw [sp4] at second
  rw [sp6] at third
  have table (m : Memory) (sp : Word16) := systemRead_tableEntry (s := s.stacked m sp)
    ((stacked_pg ..).trans ready.flat) v fun a ha => (stacked_stopAt ..).trans (ready.entry a ha).2
  unfold State.realDelivery
  dsimp only
  rw [first, Res.ok_bind, stacked_segs, second _ _ (within (by simp)) (ram (by simp [State.realStack])), Res.ok_bind,
    third _ _ (within (by simp)) (ram (by simp [State.realStack])), ← realPushed_eq, Res.ok_bind, table, Res.ok_bind,
    stacked_physMem, readBytes_realPushed_tableEntry ready, stacked_eflags, stacked_segs]
  rfl

/-- The three words stand where `RealDelivered` looks for them. -/
theorem realPushed_words :
    leValue 16 (readBytes (s.realPushed flags ip) (s.at16 (s.r16 rESP - 2))) = flags ∧
      leValue 16 (readBytes (s.realPushed flags ip) (s.at16 (s.r16 rESP - 4))) = s.segs.cs.sel ∧
      leValue 16 (readBytes (s.realPushed flags ip) (s.at16 (s.r16 rESP - 6))) = ip := by
  have words := readBytes_realPushed ready flags ip
  rw [State.realStack, State.realWords, readBytes, List.map_append, List.map_append] at words
  obtain ⟨words, ipWord⟩ := List.append_inj words (by simp [State.at16])
  obtain ⟨flagsWord, csWord⟩ := List.append_inj words (by simp [State.at16])
  have value (w : Word16) : leValue 16 (leBytes 2 w) = w := leValue_leBytes 2 w (by decide)
  rw [readBytes, readBytes, readBytes, flagsWord, csWord, ipWord]
  exact ⟨value flags, value _, value ip⟩

/-- The handler's state is what a delivery in the manner of real-address mode leaves. -/
theorem realEntered_delivered : RealDelivered s (s.realEntered v flags ip) v flags ip := by
  have memory : (s.realEntered v flags ip).physMem = s.realPushed flags ip :=
    stacked_physMem s _ (s.r16 rESP - 6)
  obtain ⟨flagsWord, csWord, ipWord⟩ := realPushed_words ready flags ip
  constructor
  case sp => exact stacked_r16 ..
  case flagsWord => rw [memory, flagsWord]
  case csWord => rw [memory, csWord]
  case ipWord => rw [memory, ipWord]
  case others =>
    intro a out
    rw [memory, readByte_realPushed_of_notMem ready flags ip out]
  case eip => rw [readBytes, List.map_take]; rfl
  case cs => rw [readBytes, List.map_drop]; rfl
  case base => rfl
  case flagIF => exact (getLsbD_handlerFlags _ bitIF).trans rfl
  case flagTF => exact (getLsbD_handlerFlags _ bitTF).trans rfl
  case flags =>
    intro k notIF notTF
    exact (getLsbD_handlerFlags _ k).trans ((if_neg notTF).trans (if_neg notIF))
  case espHigh => exact (upperHalf_setR16 ..).trans (congrArg _ (setPhysMem_r32 ..))
  case gpr => exact fun q other => (r32_setR16_ne _ _ _ other).trans (setPhysMem_r32 ..)
  case frame =>
    rw [memory]
    rfl

end

/-! ## What is raised and delivered (60 R501, R526) -/

theorem RealReady.raised {s : State} {v : Byte} (ready : RealReady s v) (c : Cause) (savedEip : Dword) :
    RealReady (s.raised c savedEip) v :=
  ⟨ready.flat, ready.mem, ready.limit, ready.apart, ready.ram, ready.entry⟩

theorem mode_v86_elim {s : State} (h : s.mode = .v86) : s.inSmm = false ∧ s.pe = true := by
  unfold State.mode at h
  split at h
  · contradiction
  · split at h
    · exact ⟨Bool.eq_false_iff.2 ‹_›, ‹_›⟩
    · contradiction

theorem mode_eq_prot {s : State} (outside : s.inSmm = false) (pe : s.pe = true) (vm : s.flag bitVM = false) :
    s.mode = .prot := by
  simp [State.mode, outside, pe, vm]

/-- The mode is decided by three things. -/
theorem mode_congr {s t : State} (inSmm : t.inSmm = s.inSmm) (cr0 : t.cr0 = s.cr0) (vm : t.flag bitVM = s.flag bitVM) :
    t.mode = s.mode := by
  unfold State.mode State.pe
  rw [inSmm, cr0, vm]

theorem RealDelivered.mode {s t : State} {v : Byte} {flags ip : Word16} (h : RealDelivered s t v flags ip) :
    t.mode = s.mode := by
  have frame := h.frame
  rw [setPhysMem_fields] at frame
  exact mode_congr (congrArg State.inSmm frame :) (congrArg State.cr0 frame :)
    (h.flags bitVM (by decide) (by decide))

/-- NT and IOPL are clear in the pushed FLAGS, and no other bit is changed (60 R528 step 1). -/
theorem getLsbD_flagsWithoutNtIopl (s : State) {k : Nat} (h : k < 16) :
    (flagsWithoutNtIopl (s.eflags.setWidth 16)).getLsbD k = (s.flag k && !(k == 12 || k == 13 || k == 14)) := by
  have mask : ∀ k < 16, (0x8FFF : Word16).getLsbD k = !(k == 12 || k == 13 || k == 14) := by decide
  rw [flagsWithoutNtIopl, BitVec.getLsbD_and, mask k h, BitVec.getLsbD_setWidth, decide_eq_true h, Bool.true_and]
  rfl

section
variable {s : State} {c : Cause} {savedEip : Dword}

theorem raise_of_delivered {t : State} (h : (s.raised c savedEip).deliver c savedEip = .ok () t) :
    raise c savedEip s = .next t := by
  simp only [raise, h]

theorem raiseSoftware_of_delivered {t : State} (h : (s.raised c savedEip).deliver c savedEip = .ok () t) :
    raiseSoftware c savedEip s = .next t := by
  simp only [raiseSoftware, h]

theorem deliver_smm (smm : s.mode = .smm) : s.deliver c savedEip = s.realDelivery c.vector savedEip false := by
  unfold State.deliver
  rw [smm]

theorem deliver_redirected (v86 : s.mode = .v86) (redirected : s.redirects c = true) :
    s.deliver c savedEip = s.realDelivery c.vector savedEip true := by
  unfold State.deliver
  rw [v86]
  exact if_pos redirected

theorem deliver_gate {g : Gate} (v86 : s.mode = .v86) (kept : s.redirects c = false) (gate : gateFree s c = some g) :
    s.deliver c savedEip = s.pl0Delivery g c savedEip := by
  unfold State.deliver
  rw [v86, gate]
  exact if_neg (ne_true_of_eq_false kept)

variable (ready : RealReady s c.vector)
include ready

/-- In real-address mode and in SMM everything raised is delivered through the table (60 R566, log 7). -/
theorem delivered_of_table (mode : s.mode = .real ∨ s.mode = .smm) :
    ∃ t, (s.raised c savedEip).deliver c savedEip = .ok () t ∧
      RealDelivered (s.raised c savedEip) t c.vector (s.eflags.setWidth 16) (savedEip.setWidth 16) := by
  have ready' := ready.raised c savedEip
  have table : (s.raised c savedEip).deliver c savedEip =
      (s.raised c savedEip).realDelivery c.vector savedEip false := by
    obtain real | smm := mode
    · exact deliver_real (s := s.raised c savedEip) real c savedEip
    · exact deliver_smm (s := s.raised c savedEip) smm
  refine ⟨_, table.trans (realDelivery_runs ready' savedEip false), ?_⟩
  rw [← extractLsb'_eq_setWidth, ← extractLsb'_eq_setWidth]
  exact realEntered_delivered ready' ..

/-- What virtual-8086 mode hands to the 8086 program (60 R528), with NT and IOPL clear in the pushed FLAGS. -/
theorem delivered_of_redirects (v86 : s.mode = .v86) (redirected : s.redirects c = true) :
    ∃ t flags, (s.raised c savedEip).deliver c savedEip = .ok () t ∧
      RealDelivered (s.raised c savedEip) t c.vector flags (savedEip.setWidth 16) ∧
      (∀ k < 16, flags.getLsbD k = (s.flag k && !(k == 12 || k == 13 || k == 14))) ∧ t.mode = .v86 := by
  have ready' := ready.raised c savedEip
  have program := deliver_redirected (s := s.raised c savedEip) (savedEip := savedEip) v86 redirected
  have delivered := realEntered_delivered ready' (flagsWithoutNtIopl (s.eflags.setWidth 16)) (savedEip.setWidth 16)
  rw [realDelivery_runs ready', if_pos rfl, extractLsb'_eq_setWidth, extractLsb'_eq_setWidth] at program
  exact ⟨_, _, program, delivered, fun k => getLsbD_flagsWithoutNtIopl s, delivered.mode.trans v86⟩

end

theorem raise_awake {c : Cause} {savedEip : Dword} {s t : State} (h : raise c savedEip s = .next t) :
    t.halted = false :=
  (congrArg State.halted (show t = _ from raise_frame h) :)

/-- Method 6 of 60 R526 takes exceptions, the single step, NMI and INTR#. -/
theorem redirects_of_method6 {s : State} {c : Cause} (method6 : s.method6 = true)
    (h : (∃ e, c = .exn e) ∨ c = .singleStep ∨ c = .nmi ∨ ∃ v, c = .intr v) : s.redirects c = true := by
  obtain ⟨e, rfl⟩ | rfl | rfl | ⟨v, rfl⟩ := h <;> exact method6

/-! ## INT n (60 R526, R527) -/

theorem redirectionBit_ok {s t : State} {n : Byte} {b : Bool} (h : s.redirectionBit n = .ok b t) : PagingOnly s t := by
  obtain ⟨_, s₁, h₁, h⟩ := Res.bind_ok.1 h
  obtain ⟨_, s₂, h₂, h⟩ := Res.bind_ok.1 h
  injection h with _ h
  exact h ▸ (systemRead_ok h₁).1.trans (systemRead_ok h₂).1

section
variable {s : State} (n : Byte) (len : Nat)

theorem execInt_base (other : s.mode ≠ .v86) :
    execInt n len s = raiseSoftware (.soft n) (s.eip + BitVec.ofNat 32 len) s := if_neg other

variable (v86 : s.mode = .v86)
include v86

theorem execInt_denied (iopl : s.iopl ≠ 3) : execInt n len s = takeException .gp s := by
  rw [execInt, if_pos v86, if_pos iopl]

variable (iopl : s.iopl = 3)
include iopl

theorem execInt_method1 (vme : s.vme = false) :
    execInt n len s = raiseSoftware (.soft n) (s.eip + BitVec.ofNat 32 len) s := by
  rw [execInt, if_pos v86, if_neg (not_not.2 iopl), if_neg (ne_true_of_eq_false vme)]

variable (vme : s.vme = true)
include vme

/-! With VME the redirection map decides (60 R527). -/

theorem execInt_mapFails {e : Exn} (map : s.redirectionBit n = .exn e) : execInt n len s = takeException e s := by
  simp only [execInt, v86, iopl, vme, map, ne_eq, not_true, if_true, if_false]

theorem execInt_method4 {t : State} (map : s.redirectionBit n = .ok true t) :
    execInt n len s = raiseSoftware (.soft n) (s.eip + BitVec.ofNat 32 len) t := by
  simp only [execInt, v86, iopl, vme, map, ne_eq, not_true, if_true, if_false]

theorem execInt_method5 {t : State} (map : s.redirectionBit n = .ok false t) :
    execInt n len s = raiseSoftware (.redirected n) (s.eip + BitVec.ofNat 32 len) t := by
  simp only [execInt, v86, iopl, vme, map, ne_eq, not_true, if_true, if_false]

end

/-! ## The frame of privilege level 0 (60 R532) -/

theorem frameBytes_length (s : State) (c : Cause) (savedEip : Dword) :
    ((s.pl0Frame c savedEip).flatMap (leBytes 4)).length = c.frameSize := by
  rw [flatMap_leBytes_length, State.pl0Frame, Cause.frameSize, List.length_append]
  simp only [List.length_cons, List.length_nil]
  omega

theorem frameSize_le (c : Cause) : c.frameSize ≤ 40 := by
  unfold Cause.frameSize
  cases c.code <;> simp

theorem gateStack_eq_flatAddrs (g : Gate) (c : Cause) :
    g.stack c = flatAddrs (g.ss.base + (g.esp - BitVec.ofNat 32 c.frameSize)) c.frameSize := rfl

/-- Memory with the frame stored. -/
def State.pl0Stored (s : State) (g : Gate) (c : Cause) (savedEip : Dword) : Memory :=
  writeBytes s.physMem ((g.stack c).zip ((s.pl0Frame c savedEip).flatMap (leBytes 4)))

/-- The handler's state at privilege level 0: the frame on the gate's stack, the data segments cleared, VM clear. -/
def State.pl0Entered (s : State) (g : Gate) (c : Cause) (savedEip : Dword) : State :=
  { (s.setPhysMem (s.pl0Stored g c savedEip)).setR32 rESP (g.esp - BitVec.ofNat 32 c.frameSize) with
    segs := ⟨s.segs.es.cleared, g.cs, g.ss, s.segs.ds.cleared, s.segs.fs.cleared, s.segs.gs.cleared⟩
    eip := g.eip
    eflags := pl0Flags s.eflags g.flags
    cpl := 0 }

/-- TF, IF, NT and RF come from the gate, VM is clear, and the other flags stay. -/
theorem getLsbD_pl0Flags (old gate : Dword) (k : Nat) : (pl0Flags old gate).getLsbD k =
    if k ∈ [8, 9, 14, 16] then gate.getLsbD k else if k = bitVM then false else old.getLsbD k := by
  have taken : ∀ k < 32, gateFlags.getLsbD k = decide (k ∈ [8, 9, 14, 16]) := by decide
  have cleared : ∀ k < 32,
      (gateFlags ||| BitVec.twoPow 32 bitVM).getLsbD k = decide (k ∈ [8, 9, 14, 16] ∨ k = bitVM) := by decide
  by_cases inside : k < 32
  · rw [pl0Flags, BitVec.getLsbD_or, BitVec.getLsbD_and, BitVec.getLsbD_and, BitVec.getLsbD_not, cleared k inside,
      taken k inside]
    by_cases ofGate : k ∈ [8, 9, 14, 16]
    · simp [ofGate]
    · by_cases vm : k = bitVM <;> simp [ofGate, vm, inside]
  · simp [BitVec.getLsbD_of_ge _ _ (Nat.le_of_not_lt inside)]

/-- The image of the deferred interrupt: IOPL = 3 and IF = VIF (log 59). -/
theorem getLsbD_flagsImage_deferred (s : State) (k : Nat) : (s.flagsImage .deferred).getLsbD k =
    ((k == 12 || k == 13) || if k = bitIF then s.flag bitVIF else s.flag k) := by
  rw [State.flagsImage, getLsbD_setBit _ _ _ _ (by decide), getLsbD_setBit _ _ _ _ (by decide),
    getLsbD_setBit _ _ _ _ (by decide)]
  by_cases iopl : k = 12 ∨ k = 13
  · obtain rfl | rfl := iopl <;> rfl
  · obtain ⟨not12, not13⟩ := not_or.1 iopl
    simp [not12, not13, State.flag]

theorem flagsImage_of_ne (s : State) {c : Cause} (h : c ≠ .deferred) : s.flagsImage c = s.eflags := by
  cases c with
  | deferred => contradiction
  | _ => rfl

theorem Pl0Ready.raised {s : State} {g : Gate} {c : Cause} (ready : Pl0Ready s g c) (savedEip : Dword) :
    Pl0Ready (s.raised c savedEip) g c :=
  ⟨ready.flat, ready.mem, ready.limit, ready.ram⟩

theorem gateStack_length (s : State) (g : Gate) (c : Cause) (savedEip : Dword) :
    (g.stack c).length = ((s.pl0Frame c savedEip).flatMap (leBytes 4)).length := by
  rw [frameBytes_length, gateStack_eq_flatAddrs, flatAddrs_length]

section
variable {s : State} {g : Gate} {c : Cause} (ready : Pl0Ready s g c) (savedEip : Dword)
include ready

/-- A frame within the limit, in plain memory, is stored whole. -/
theorem pl0Delivery_runs : s.pl0Delivery g c savedEip = .ok () (s.pl0Entered g c savedEip) := by
  have within := Nat.not_lt.2 ready.limit
  have addrs : s.linAddrs (g.ss.base + (g.esp - BitVec.ofNat 32 c.frameSize)) c.frameSize ⟨false, true⟩ =
      .ok (g.stack c) s := linAddrs_flat _ _ _ _ ready.flat
  unfold State.pl0Delivery
  dsimp only
  rw [frameBytes_length, if_neg within, addrs, Res.ok_bind,
    writePhys_mapped (gateStack_length ..) fun _ => stopAt_of_allRam ready.ram, storedCells_of_allRam ready.ram,
    Res.ok_bind, setPhysMem_segs, setPhysMem_eflags]
  rfl

/-- The handler's state is what a delivery to privilege level 0 leaves. -/
theorem pl0Entered_delivered (v86 : s.mode = .v86) :
    Pl0Delivered s (s.pl0Entered g c savedEip) g c savedEip (s.flagsImage c) := by
  have memory : (s.pl0Entered g c savedEip).physMem = s.pl0Stored g c savedEip :=
    setPhysMem_physMem s (s.pl0Stored g c savedEip)
  have distinct : (g.stack c).Nodup := flatAddrs_nodup _ (le_trans (frameSize_le c) (by decide))
  have handlerFlag (k : Nat) : (s.pl0Entered g c savedEip).flag k =
      if k ∈ [8, 9, 14, 16] then g.flags.getLsbD k else if k = bitVM then false else s.flag k := getLsbD_pl0Flags ..
  have vmClear : (s.pl0Entered g c savedEip).flag bitVM = false := handlerFlag bitVM
  constructor
  case stack => rw [memory]; exact readBytes_writeBytes _ _ _ ready.mem distinct (gateStack_length ..)
  case others =>
    intro a out
    rw [memory]
    exact readByte_writeBytes_ne _ _ _ ready.mem fun _ hc e => out (e ▸ (List.of_mem_zip hc).1)
  case esp => exact State.r32_setR32_self ..
  case gpr => exact fun q other => (State.r32_setR32_ne _ _ _ _ other.symm).trans (setPhysMem_r32 ..)
  case segs => rfl
  case flagVM => exact vmClear
  case gateFlags => exact fun k taken => (handlerFlag k).trans (if_pos taken)
  case flags =>
    intro k other
    simp only [List.mem_cons, List.not_mem_nil, or_false, not_or] at other
    simp [handlerFlag, other]
  case mode =>
    obtain ⟨outside, pe⟩ := mode_v86_elim v86
    have inSmm : (s.setPhysMem (s.pl0Stored g c savedEip)).inSmm = s.inSmm := by rw [setPhysMem_fields]
    have cr0 : (s.setPhysMem (s.pl0Stored g c savedEip)).cr0 = s.cr0 := by rw [setPhysMem_fields]
    have prot : (s.pl0Entered g c savedEip).mode = .prot :=
      mode_eq_prot (inSmm.trans outside) ((congrArg (·.getLsbD 0) cr0).trans pe) vmClear
    refine ⟨prot, ?_⟩
    rw [State.cplNow, prot]
    rfl
  case frame =>
    rw [memory]
    rfl

end

/-- What virtual-8086 mode does not hand to the 8086 program (60 R526, R530). -/
theorem not_redirects {s : State} {c : Cause} (h : c = .deferred ∨ c = .stiPending ∨ (∃ n, c = .soft n) ∨
    ((∀ n, c ≠ .redirected n) ∧ (s.vme = false ∨ s.iopl = 3))) : s.redirects c = false := by
  obtain rfl | rfl | ⟨n, rfl⟩ | ⟨notRedirected, off⟩ := h
  · rfl
  · rfl
  · rfl
  · have noMethod6 : s.method6 = false := by
      rw [← Bool.not_eq_true, method6_iff]
      rintro ⟨-, vme, iopl⟩
      obtain off | full := off
      · rw [vme] at off
        contradiction
      · exact iopl full
    cases c with
    | redirected n => exact absurd rfl (notRedirected n)
    | exn | singleStep | nmi | intr => exact noMethod6
    | deferred | stiPending | soft => rfl

/-- Settles O40: `deliver` has one described way for each mode and cause, and each way is run from its `Ready` facts. -/
theorem realDelivery : Obligations.RealDelivery := by
  refine ⟨fun _ _ => rfl, fun c saved s ready => ⟨fun mode => ?table, fun v86 vme iopl cause => ?method6⟩,
    fun n len s => ⟨fun other => execInt_base n len other, fun v86 iopl => execInt_denied n len v86 iopl,
      fun v86 iopl vme => execInt_method1 n len v86 iopl vme, fun v86 iopl vme =>
        ⟨fun e map => execInt_mapFails n len v86 iopl vme map,
          fun t map => ⟨redirectionBit_ok map, execInt_method4 n len v86 iopl vme map⟩, fun map ready => ?method5⟩⟩,
    fun g c saved s v86 ready cause => ?pl0⟩
  case table =>
    obtain ⟨t, run, delivered⟩ := delivered_of_table (savedEip := saved) ready mode
    have raised := raise_of_delivered run
    exact ⟨t, raised, raiseSoftware_of_delivered run, delivered, raise_lastExn raised, raise_awake raised⟩
  case method6 =>
    have redirected := redirects_of_method6 ((method6_iff s).2 ⟨v86, vme, iopl⟩) cause
    obtain ⟨t, flags, run, delivered, word, mode⟩ := delivered_of_redirects (savedEip := saved) ready v86 redirected
    have raised := raise_of_delivered run
    exact ⟨t, flags, raised, delivered, word, mode, raise_lastExn raised, raise_awake raised⟩
  case method5 =>
    obtain ⟨t, flags, run, delivered, word, mode⟩ := delivered_of_redirects (c := .redirected n)
      (savedEip := s.eip + BitVec.ofNat 32 len) ready v86 rfl
    exact ⟨t, flags, (execInt_method5 n len v86 iopl vme map).trans (raiseSoftware_of_delivered run), delivered, word,
      mode, (congrArg State.cr2 (show t = _ from deliver_frame run) :), raise_lastExn (raise_of_delivered run)⟩
  case pl0 =>
    intro q
    have ready' : Pl0Ready q g c := ready.raised saved
    have run := pl0Delivery_runs ready' saved
    refine ⟨_, q.flagsImage c, run, pl0Entered_delivered ready' saved v86, flagsImage_of_ne q, ?_, fun gate => ?_⟩
    · rintro rfl
      exact getLsbD_flagsImage_deferred q
    · have delivered := (deliver_gate (s := q) (savedEip := saved) v86 (not_redirects (s := q) cause) gate).trans run
      exact ⟨raise_of_delivered delivered, raiseSoftware_of_delivered delivered⟩

end Sys2Proof.Machine
end
